-- ==== Sys2Proof/Word.lean ====
section
/-! DEFINITION. The names of ports and wheels, and the containers that hold one thing for each of them. -/

namespace Sys2Proof

/-- The three SPI target ports (00_scope 1.3). -/
inductive Port where
  | a | b | c
  deriving DecidableEq, Repr

/-- The four wheels of Table 1-3: front left 0, front right 1, rear left 2, rear right 3. -/
inductive Wheel where
  | fl | fr | rl | rr
  deriving DecidableEq, Repr

/-- The two axles of section 1.5.1. -/
inductive Axle where
  | front | rear
  deriving DecidableEq, Repr

namespace Port

/-- Number of a port in every readable field: 1 A, 2 B, 3 C (Table 7-9). -/
def num : Port → Nat
  | .a => 1
  | .b => 2
  | .c => 3

/-- The ports in the order in which R135 judges them. -/
def all : List Port := [.a, .b, .c]

end Port

namespace Wheel

/-- Number of a wheel (Table 1-3). -/
def num : Wheel → Nat
  | .fl => 0
  | .fr => 1
  | .rl => 2
  | .rr => 3

/-- The wheels by number. -/
def all : List Wheel := [.fl, .fr, .rl, .rr]

/-- The wheel of a number below 4. -/
def ofNum : Nat → Wheel
  | 0 => .fl
  | 1 => .fr
  | 2 => .rl
  | _ => .rr

/-- The axle of a wheel (Table 1-3). -/
def axle : Wheel → Axle
  | .fl | .fr => .front
  | .rl | .rr => .rear

/-- The rear partner of a front wheel (section 1.5.1). -/
def rearPartner : Wheel → Option Wheel
  | .fl => some .rl
  | .fr => some .rr
  | .rl | .rr => none

end Wheel

/-- One value for each port. -/
structure PerPort (α : Type) where
  a : α
  b : α
  c : α
  deriving DecidableEq, Repr

/-- One value for each wheel. -/
structure PerWheel (α : Type) where
  fl : α
  fr : α
  rl : α
  rr : α
  deriving DecidableEq, Repr

namespace PerPort

variable {α : Type}

/-- The same value for every port. -/
def same (x : α) : PerPort α := ⟨x, x, x⟩

/-- The value of one port. -/
def get (v : PerPort α) : Port → α
  | .a => v.a
  | .b => v.b
  | .c => v.c

/-- Another value for one port. -/
def set (v : PerPort α) (p : Port) (x : α) : PerPort α :=
  match p with
  | .a => { v with a := x }
  | .b => { v with b := x }
  | .c => { v with c := x }

/-- A function applied to one port's value. -/
def modify (v : PerPort α) (p : Port) (f : α → α) : PerPort α :=
  v.set p (f (v.get p))

/-- A value made from each port's name and its value. -/
def mapWith (v : PerPort α) (f : Port → α → α) : PerPort α :=
  ⟨f .a v.a, f .b v.b, f .c v.c⟩

end PerPort

namespace PerWheel

variable {α : Type}

/-- The same value for every wheel. -/
def same (x : α) : PerWheel α := ⟨x, x, x, x⟩

/-- The value of one wheel. -/
def get (v : PerWheel α) : Wheel → α
  | .fl => v.fl
  | .fr => v.fr
  | .rl => v.rl
  | .rr => v.rr

/-- Another value for one wheel. -/
def set (v : PerWheel α) (w : Wheel) (x : α) : PerWheel α :=
  match w with
  | .fl => { v with fl := x }
  | .fr => { v with fr := x }
  | .rl => { v with rl := x }
  | .rr => { v with rr := x }

/-- A function applied to one wheel's value. -/
def modify (v : PerWheel α) (w : Wheel) (f : α → α) : PerWheel α :=
  v.set w (f (v.get w))

/-- A value made from each wheel's name and its value. -/
def mapWith {β : Type} (v : PerWheel α) (f : Wheel → α → β) : PerWheel β :=
  ⟨f .fl v.fl, f .fr v.fr, f .rl v.rl, f .rr v.rr⟩

end PerWheel

end Sys2Proof
end

