-- ==== Sys2Proof/Config.lean ====
section
/-! DEFINITION. The constants that the manual fixes for the part, and the one value that it leaves open. -/

namespace Sys2Proof.Config

/-- Part identity, read at index 13Fh (Table 7-9). -/
def partIdentity : BitVec 16 := 0x2410

/-- Items a preview queue holds at most (R36). -/
def queueCapacity : Nat := 12

/-- Micrometres of one advance (R29). -/
def advanceMicrometres : Nat := 1000

/-- Entries of one map slot or overlay bank (R75, R93). -/
def slotEntries : Nat := 306

/-- Entries of one plane (R75). -/
def planeEntries : Nat := 153

/-- Columns of one row (R75). -/
def rowColumns : Nat := 9

/-- The greatest map entry, mA (R75). -/
def entryMax : Nat := 2000

/-- The limit of the stroke velocities, mm/s (R67). -/
def velocityLimit : Int := 4000

/-- In-range samples that bring a LOST sensor back (R63). -/
def recoverySamples : Nat := 16

/-- Out-of-range samples that lose a sensor (R62). -/
def lossSamples : Nat := 3

/-- Consecutive deviations that log REGULATION (R110). -/
def regulationCycles : Nat := 8

/-- Least judged target of the open-coil condition, mA (R111). -/
def openTargetMin : Nat := 200

/-- Consecutive open cycles that log COIL_OPEN (R111). -/
def openCycles : Nat := 3

/-- NOTICE data when no cause waits (R149). -/
def noCause : BitVec 16 := 15

/-- FREE VALUE: what SDO of a port (by its number) carries after k clocks while chip select is still low in a transaction
that a reset met. R130 says only that the transaction is not taken, so nothing is known of it (log 15). -/
opaque lostSdo : Nat → Nat → Option Bool

end Sys2Proof.Config
end

