-- ==== Sys2Proof/Machine/Wire.lean ====
section
/-! DEFINITION. The wire: bit order, request frame layout (Table 7-2), CRC-8 of frames (R132) and CRC-16 of images (R153). -/

namespace Sys2Proof.Machine

/-- Received bits placed from the top bit downward, bits not received 0, bits beyond the width dropped (R133). -/
def wordOfBits : (n : Nat) → List Bool → BitVec n
  | 0, _ => 0#0
  | n + 1, [] => 0#(n + 1)
  | n + 1, b :: rest => BitVec.cons b (wordOfBits n rest)

/-- The bits of a word, most significant first: the order on SDI and SDO (R130). -/
def bitsOfWord : {n : Nat} → BitVec n → List Bool
  | 0, _ => []
  | n + 1, w => w.msb :: bitsOfWord (w.setWidth n)

/-- One bit through the CRC-8 register: polynomial x^8 + x^4 + x^3 + x^2 + 1 (R132). -/
def crc8Step (r : BitVec 8) (bit : Bool) : BitVec 8 :=
  if r.msb != bit then (r <<< 1) ^^^ 0x1D#8 else r <<< 1

/-- The CRC-8 over bits 31-8 of a frame, most significant first, from FFh (R132). -/
def crc8 (payload : BitVec 24) : BitVec 8 :=
  (bitsOfWord payload).foldl crc8Step 0xFF#8

/-- One bit through the CRC-16 register: polynomial x^16 + x^12 + x^5 + 1 (R153). -/
def crc16Step (r : BitVec 16) (bit : Bool) : BitVec 16 :=
  if r.msb != bit then (r <<< 1) ^^^ 0x1021#16 else r <<< 1

/-- The CRC-16 over an image's values, each as 16 bits, most significant first, from FFFFh (R153). -/
def crc16 (values : List (BitVec 16)) : BitVec 16 :=
  values.foldl (fun r v => (bitsOfWord v).foldl crc16Step r) 0xFFFF#16

/-- A frame of 24 payload bits followed by their CRC-8 (R131, R132). -/
def sealFrame (payload : BitVec 24) : BitVec 32 :=
  payload ++ crc8 payload

/-- Bits 31-8 of a frame. -/
def framePayload (w : BitVec 32) : BitVec 24 := w.extractLsb' 8 24

/-- Bits 7-0 of a frame. -/
def frameCrc (w : BitVec 32) : BitVec 8 := w.extractLsb' 0 8

/-- Command code, bits 31-27 of a request (Table 7-2). -/
def frameCommand (w : BitVec 32) : BitVec 5 := w.extractLsb' 27 5

/-- Wheel mask, bits 26-23 of a request (Table 7-2). -/
def frameMask (w : BitVec 32) : BitVec 4 := w.extractLsb' 23 4

/-- Data field, bits 22-11 of a request (Table 7-2). -/
def frameData (w : BitVec 32) : BitVec 12 := w.extractLsb' 11 12

/-- Tag, bits 10-8 of a request (Table 7-2). -/
def frameTag (w : BitVec 32) : BitVec 3 := w.extractLsb' 8 3

/-- The CRC-8 in a frame is the one of its payload (R132). -/
def crcMatches (w : BitVec 32) : Bool := frameCrc w == crc8 (framePayload w)

/-- A good frame: 32 bits with a correct CRC-8 (R134). -/
def isGoodFrame (bits : List Bool) : Bool :=
  bits.length == 32 && crcMatches (wordOfBits 32 bits)

end Sys2Proof.Machine
end

