-- ==== Sys2Proof/Syntax.lean ====
section
/-! DEFINITION. The commands and events of spec/opcode_table.json, one constructor for each row. -/

namespace Sys2Proof

/-- The two sources of demand records (R1). -/
inductive Source where
  | ride | stability
  deriving DecidableEq, Repr

/-- What every good frame carries besides its command and data: the port it arrived at, the wheel mask of
bits 26-23 and the tag of bits 10-8 (Table 7-2). -/
structure Header where
  port : Port
  mask : BitVec 4
  tag : BitVec 3
  deriving DecidableEq, Repr

/-- The part's steps. A `data` operand is the 12-bit data field of the request (Table 7-2), its ignored bits included. -/
inductive Instr where
  /-- NOP (R134). -/
  | nop (h : Header) (data : BitVec 12)
  /-- SET_LEVEL (R4). -/
  | setLevel (h : Header) (data : BitVec 12)
  /-- SET_FLOOR (R5). -/
  | setFloor (h : Header) (data : BitVec 12)
  /-- RELEASE (R7). -/
  | release (h : Header) (data : BitVec 12)
  /-- PREVIEW_LEVEL (R40). -/
  | previewLevel (h : Header) (data : BitVec 12)
  /-- PREVIEW_SPAN (R41). -/
  | previewSpan (h : Header) (data : BitVec 12)
  /-- PREVIEW_AT (R42). -/
  | previewAt (h : Header) (data : BitVec 12)
  /-- PREVIEW_CANCEL (R48). -/
  | previewCancel (h : Header) (data : BitVec 12)
  /-- SELECT (R137). -/
  | select (h : Header) (data : BitVec 12)
  /-- PUT (R139). -/
  | put (h : Header) (data : BitVec 12)
  /-- MAP_PUT: a PUT whose index pointer stands in the map window (R90). -/
  | mapPut (h : Header) (data : BitVec 12)
  /-- GET (R138). -/
  | get (h : Header) (data : BitVec 12)
  /-- MODE with data 0 (R124). -/
  | modeConfig (h : Header)
  /-- MODE with data 1 (R121, R122). -/
  | modeRun (h : Header)
  /-- MODE with data 2 (R123). -/
  | modeCalibrate (h : Header)
  /-- NOTICE (R149). -/
  | notice (h : Header) (data : BitVec 12)
  /-- NOTICE_MASK (R147). -/
  | noticeMask (h : Header) (data : BitVec 12)
  /-- CLEAR_BANK (R152). -/
  | clearBank (h : Header) (data : BitVec 12)
  /-- STORE_PROGRAM (R155). -/
  | storeProgram (h : Header) (data : BitVec 12)
  /-- STORE_ABORT (R156). -/
  | storeAbort (h : Header) (data : BitVec 12)
  /-- OVERLAY_BIND: data bits 11-8 bank, 7-4 ignored, 3-0 slot code (Table 7-5, R94). -/
  | overlayBind (h : Header) (bank spare code : BitVec 4)
  /-- OVERLAY_BIND with slot code 15 (R95). -/
  | overlayUnbind (h : Header) (bank spare : BitVec 4)
  /-- OVERLAY_COMMIT (R96). -/
  | overlayCommit (h : Header) (data : BitVec 12)
  /-- A good frame with a command code of 13h to 1Fh (R136). -/
  | unassignedCommand (h : Header) (code : BitVec 5) (data : BitVec 12)
  /-- A transaction of the wrong length or with a wrong CRC-8, with the bits received, first bit first (R133). -/
  | framingError (p : Port) (bits : List Bool)
  /-- SAFE_B goes low (R126). -/
  | safeAsserted
  /-- SAFE_B goes high (R126). -/
  | safeReleased
  /-- CAL_EN goes low (R125). -/
  | calEnFall
  /-- CAL_EN goes high (R125). -/
  | calEnRise
  /-- A rising edge on TRAVEL (R29). -/
  | travelPulse
  /-- One fixed advance is made (R31). -/
  | advance
  /-- The standstill timer's boundary comes (R33). -/
  | standstillExpiry
  /-- The expiry boundary of one wheel's record of one source comes (R8). -/
  | demandRecordExpiry (w : Wheel) (src : Source)
  /-- A port's link timer reaches its boundary (R142). -/
  | linkTimerExpiry (p : Port)
  /-- The cycle timer begins a period (R55). -/
  | periodStart
  /-- A wheel's cycle expiry, with the converted stroke code (R60) and the average coil current (R108) it finds. -/
  | cycleExpiry (w : Wheel) (code : BitVec 12) (measured : Fin 2601)
  /-- A driver senses more than 2,600 mA (R112). -/
  | shortDetected (w : Wheel)
  /-- A programming operation's writing ends, with the outcome of its verify (R155). -/
  | storeCompletion (verifyGood : Bool)
  /-- Step 1 of the load completes (R154). -/
  | parameterBlockLoad
  /-- The load of one slot completes (R154). -/
  | slotLoad (slot : Fin 8)
  /-- The load completes (R154, R119). -/
  | loadCompletion
  /-- A reset follows the application of power (R150). -/
  | powerOnReset
  /-- RESET_B is asserted with power present (R150). -/
  | resetLineReset
  /-- A reset ends, with the levels of each port's strap pins, pin 1 the high bit (R135). -/
  | resetEnd (strapA strapB strapC : BitVec 2)
  /-- A port's chip select falls (R130). -/
  | chipSelectFall (p : Port)
  /-- A boundary of the millisecond time base (R3). -/
  | millisecondBoundary
  /-- MODE with data 3 to 4095 (R120). -/
  | modeInvalidRequest (h : Header) (data : BitVec 12)
  deriving DecidableEq, Repr

end Sys2Proof
end

