-- ==== Sys2Proof/WellFormed.lean ====
section
/-! DEFINITION. Which terms are steps of the part: the operand ranges that the types do not already hold. -/

namespace Sys2Proof

/-- A command's operands are ones that its row can carry: a slot code of OVERLAY_BIND other than 15 (15 is
OVERLAY_UNBIND, R95), an unassigned code of 13h-1Fh (R136), a MODE data of 3-4095 (R120), and bits that are
no good frame for a framing error (R133). Every other operand admits every value of its type. -/
def Instr.wellFormed : Instr → Bool
  | .overlayBind _ _ _ code => code != 15#4
  | .unassignedCommand _ code _ => decide (0x13#5 ≤ code)
  | .modeInvalidRequest _ data => decide (3#12 ≤ data)
  | .framingError _ bits => !Machine.isGoodFrame bits
  | _ => true

end Sys2Proof
end

