-- ==== Sys2Proof/Decode.lean ====
section
/-! DEFINITION. From bits to commands: the host's reading by the opcode table, and the part's own reading of request
frames (R133, R134, Tables 7-2 and 7-5) with the encoder beside it. -/

namespace Sys2Proof

/-- The command a word spells by the bits of spec/opcode_table.json. No row of the table gives bits, so no word
spells one (log 3). -/
def decodeTableWord (_nbits _w : Nat) : Option Instr := none

/-- The MODE request of a data field (R120). -/
def modeRequest (h : Header) (data : BitVec 12) : Instr :=
  if data = 0#12 then .modeConfig h
  else if data = 1#12 then .modeRun h
  else if data = 2#12 then .modeCalibrate h
  else .modeInvalidRequest h data

/-- The overlay command of code 11h, by its slot code (R94, R95). -/
def overlayRequest (h : Header) (data : BitVec 12) : Instr :=
  if data.extractLsb' 0 4 = 15#4 then
    .overlayUnbind h (data.extractLsb' 8 4) (data.extractLsb' 4 4)
  else
    .overlayBind h (data.extractLsb' 8 4) (data.extractLsb' 4 4) (data.extractLsb' 0 4)

/-- The command of a good frame's code (Table 7-5). -/
def commandOfCode (h : Header) (code : BitVec 5) (data : BitVec 12) : Instr :=
  match code.toNat with
  | 0x00 => .nop h data
  | 0x01 => .setLevel h data
  | 0x02 => .setFloor h data
  | 0x03 => .release h data
  | 0x04 => .previewLevel h data
  | 0x05 => .previewSpan h data
  | 0x06 => .previewAt h data
  | 0x07 => .previewCancel h data
  | 0x08 => .select h data
  | 0x09 => .put h data
  | 0x0A => .get h data
  | 0x0B => modeRequest h data
  | 0x0C => .notice h data
  | 0x0D => .noticeMask h data
  | 0x0E => .clearBank h data
  | 0x0F => .storeProgram h data
  | 0x10 => .storeAbort h data
  | 0x11 => overlayRequest h data
  | 0x12 => .overlayCommit h data
  | _ => .unassignedCommand h code data

/-- The command of a 32-bit request with a correct CRC. -/
def commandOfWord (p : Port) (w : BitVec 32) : Instr :=
  commandOfCode ⟨p, Machine.frameMask w, Machine.frameTag w⟩ (Machine.frameCommand w) (Machine.frameData w)

/-- The step that a transaction at a port is, from the bits received (R133, R134). -/
def decodeFrame (p : Port) (bits : List Bool) : Instr :=
  if Machine.isGoodFrame bits then commandOfWord p (Machine.wordOfBits 32 bits)
  else .framingError p bits

/-- The request frame of given fields (Table 7-2). -/
def requestFrame (h : Header) (code : BitVec 5) (data : BitVec 12) : BitVec 32 :=
  Machine.sealFrame (code ++ h.mask ++ data ++ h.tag)

/-- The request frame of a command that a good frame carries (Tables 7-2 and 7-5); none for every other step. -/
def encodeFrame : Instr → Option (BitVec 32)
  | .nop h d => some (requestFrame h 0x00#5 d)
  | .setLevel h d => some (requestFrame h 0x01#5 d)
  | .setFloor h d => some (requestFrame h 0x02#5 d)
  | .release h d => some (requestFrame h 0x03#5 d)
  | .previewLevel h d => some (requestFrame h 0x04#5 d)
  | .previewSpan h d => some (requestFrame h 0x05#5 d)
  | .previewAt h d => some (requestFrame h 0x06#5 d)
  | .previewCancel h d => some (requestFrame h 0x07#5 d)
  | .select h d => some (requestFrame h 0x08#5 d)
  | .put h d => some (requestFrame h 0x09#5 d)
  | .mapPut h d => some (requestFrame h 0x09#5 d)
  | .get h d => some (requestFrame h 0x0A#5 d)
  | .modeConfig h => some (requestFrame h 0x0B#5 0#12)
  | .modeRun h => some (requestFrame h 0x0B#5 1#12)
  | .modeCalibrate h => some (requestFrame h 0x0B#5 2#12)
  | .modeInvalidRequest h d => some (requestFrame h 0x0B#5 d)
  | .notice h d => some (requestFrame h 0x0C#5 d)
  | .noticeMask h d => some (requestFrame h 0x0D#5 d)
  | .clearBank h d => some (requestFrame h 0x0E#5 d)
  | .storeProgram h d => some (requestFrame h 0x0F#5 d)
  | .storeAbort h d => some (requestFrame h 0x10#5 d)
  | .overlayBind h bank spare code => some (requestFrame h 0x11#5 (bank ++ spare ++ code))
  | .overlayUnbind h bank spare => some (requestFrame h 0x11#5 (bank ++ spare ++ 15#4))
  | .overlayCommit h d => some (requestFrame h 0x12#5 d)
  | .unassignedCommand h code d => some (requestFrame h code d)
  | .framingError .. | .safeAsserted | .safeReleased | .calEnFall | .calEnRise | .travelPulse | .advance
  | .standstillExpiry | .demandRecordExpiry .. | .linkTimerExpiry _ | .periodStart | .cycleExpiry ..
  | .shortDetected _ | .storeCompletion _ | .parameterBlockLoad | .slotLoad _ | .loadCompletion | .powerOnReset
  | .resetLineReset | .resetEnd .. | .chipSelectFall _ | .millisecondBoundary => none

end Sys2Proof
end

