-- ==== Sys2Proof/Machine/Params.lean ====
section
/-! DEFINITION. The parameters of Table 7-8: names, indices, ranges, defaults, live marking, and the space that holds them. -/

namespace Sys2Proof.Machine

/-- The 50 parameters of Table 7-8. -/
inductive Param where
  | cycleUs
  | phase (w : Wheel)
  | zero (w : Wheel)
  | gain (w : Wheel)
  | senseLo | senseHi
  | kFilt
  | vlsb | vlen | llsb | llen
  | mapselA (w : Wheel)
  | mapselB (w : Wheel)
  | trim (w : Wheel)
  | imin (x : Axle)
  | imax (x : Axle)
  | slewUp (x : Axle)
  | slewDown (x : Axle)
  | defLevel
  | holdRide | holdStab
  | linkTimeout (p : Port)
  | travelStep | wheelbase | standstillMs | band
  deriving DecidableEq, Repr

/-- The parameters in the order of their indices 000h-031h (Table 7-8). -/
def paramList : List Param :=
  [.cycleUs, .phase .fl, .phase .fr, .phase .rl, .phase .rr,
   .zero .fl, .zero .fr, .zero .rl, .zero .rr,
   .gain .fl, .gain .fr, .gain .rl, .gain .rr,
   .senseLo, .senseHi, .kFilt, .vlsb, .vlen, .llsb, .llen,
   .mapselA .fl, .mapselA .fr, .mapselA .rl, .mapselA .rr,
   .mapselB .fl, .mapselB .fr, .mapselB .rl, .mapselB .rr,
   .trim .fl, .trim .fr, .trim .rl, .trim .rr,
   .imin .front, .imin .rear, .imax .front, .imax .rear,
   .slewUp .front, .slewUp .rear, .slewDown .front, .slewDown .rear,
   .defLevel, .holdRide, .holdStab,
   .linkTimeout .a, .linkTimeout .b, .linkTimeout .c,
   .travelStep, .wheelbase, .standstillMs, .band]

/-- An axle's place in a pair of per-axle indices: _F first (Table 7-8). -/
def axleOffset : Axle → Nat
  | .front => 0
  | .rear => 1

/-- Index of a parameter (Table 7-8). -/
def paramIndex : Param → Nat
  | .cycleUs => 0x00
  | .phase w => 0x01 + w.num
  | .zero w => 0x05 + w.num
  | .gain w => 0x09 + w.num
  | .senseLo => 0x0D
  | .senseHi => 0x0E
  | .kFilt => 0x0F
  | .vlsb => 0x10
  | .vlen => 0x11
  | .llsb => 0x12
  | .llen => 0x13
  | .mapselA w => 0x14 + w.num
  | .mapselB w => 0x18 + w.num
  | .trim w => 0x1C + w.num
  | .imin x => 0x20 + axleOffset x
  | .imax x => 0x22 + axleOffset x
  | .slewUp x => 0x24 + axleOffset x
  | .slewDown x => 0x26 + axleOffset x
  | .defLevel => 0x28
  | .holdRide => 0x29
  | .holdStab => 0x2A
  | .linkTimeout p => 0x2A + p.num
  | .travelStep => 0x2E
  | .wheelbase => 0x2F
  | .standstillMs => 0x30
  | .band => 0x31

/-- The parameter at an index, where Table 7-8 has one. -/
def paramAt (i : Nat) : Option Param := paramList[i]?

/-- Least value of a parameter's range (Table 7-8). -/
def paramLo : Param → Int
  | .cycleUs => 500
  | .gain _ | .kFilt | .slewUp _ | .slewDown _ | .holdRide | .holdStab | .travelStep => 1
  | .trim _ => -127
  | .wheelbase => 2000
  | .standstillMs => 50
  | .band => 10
  | .phase _ | .zero _ | .senseLo | .senseHi | .vlsb | .vlen | .llsb | .llen | .mapselA _ | .mapselB _
  | .imin _ | .imax _ | .defLevel | .linkTimeout _ => 0

/-- Greatest value of a parameter's range (Table 7-8). -/
def paramHi : Param → Int
  | .cycleUs => 4000
  | .phase _ => 3999
  | .zero _ | .senseLo | .senseHi | .travelStep => 4095
  | .gain _ | .holdRide | .holdStab | .linkTimeout _ => 255
  | .kFilt => 16
  | .vlsb => 8
  | .vlen => 4
  | .llsb => 10
  | .llen => 3
  | .mapselA _ | .mapselB _ => 7
  | .trim _ => 127
  | .imin _ | .imax _ | .slewUp _ | .slewDown _ => 2000
  | .defLevel => 1023
  | .wheelbase => 4000
  | .standstillMs => 1000
  | .band => 500

/-- Default value of a parameter (Table 7-8). -/
def paramDefault : Param → Int
  | .cycleUs => 1000
  | .phase w => 250 * w.num
  | .zero _ => 2048
  | .gain _ => 40
  | .senseLo => 100
  | .senseHi => 3995
  | .kFilt => 8
  | .vlsb => 6
  | .vlen => 4
  | .llsb => 7
  | .llen => 3
  | .mapselA _ => 0
  | .mapselB _ => 1
  | .trim _ => 0
  | .imin _ => 250
  | .imax _ => 1800
  | .slewUp _ | .slewDown _ => 50
  | .defLevel => 512
  | .holdRide => 10
  | .holdStab => 50
  | .linkTimeout _ => 50
  | .travelStep => 500
  | .wheelbase => 3000
  | .standstillMs => 200
  | .band => 100

/-- Parameters that the RIDE port may write in RUN and CALIBRATE (Table 7-8). -/
def paramLive : Param → Bool
  | .kFilt | .trim _ | .imin _ | .imax _ | .slewUp _ | .slewDown _ | .defLevel | .holdRide | .holdStab
  | .linkTimeout _ | .band => true
  | .cycleUs | .phase _ | .zero _ | .gain _ | .senseLo | .senseHi | .vlsb | .vlen | .llsb | .llen
  | .mapselA _ | .mapselB _ | .travelStep | .wheelbase | .standstillMs => false

/-- The parameter space: the values of indices 000h-031h in index order (R139). -/
structure Params where
  values : Vector Int 50
  deriving DecidableEq, Repr

/-- Every index of Table 7-8 is below 50. -/
theorem paramIndex_lt (k : Param) : paramIndex k < 50 := by
  cases k with
  | phase w | zero w | gain w | mapselA w | mapselB w | trim w => cases w <;> decide
  | imin x | imax x | slewUp x | slewDown x => cases x <;> decide
  | linkTimeout p => cases p <;> decide
  | _ => decide

/-- The defaults of Table 7-8. -/
def paramDefaults : Params :=
  ⟨⟨⟨paramList.map paramDefault⟩, rfl⟩⟩

/-- A parameter as the space holds it. -/
def getParam (ps : Params) (k : Param) : Int :=
  ps.values[paramIndex k]'(paramIndex_lt k)

/-- A parameter that Table 7-8 gives no negative value, as a natural number. -/
def natParam (ps : Params) (k : Param) : Nat := (getParam ps k).toNat

/-- Another value for one parameter. -/
def putParam (ps : Params) (k : Param) (v : Int) : Params :=
  ⟨ps.values.set (paramIndex k) v (paramIndex_lt k)⟩

/-- The nearest value of a parameter's range (R139). -/
def clampToRange (k : Param) (v : Int) : Int :=
  if v < paramLo k then paramLo k else if paramHi k < v then paramHi k else v

/-- A PUT's 12-bit value as the parameter reads it: two's complement for TRIM_w, unsigned otherwise (R139). -/
def putValue : Param → BitVec 12 → Int
  | .trim _, d => d.toInt
  | _, d => d.toNat

/-- The values of a parameter block, each as 16 bits, in index order (R153). -/
def paramWords (ps : Params) : List (BitVec 16) :=
  ps.values.toList.map (BitVec.ofInt 16)

end Sys2Proof.Machine
end

