-- ==== Sys2Proof/Machine/State.lean ====
section
/-! DEFINITION. Everything the part holds (INVENTORY.md, '## State'), the machine after reset, and the reasons a step can stop. -/

namespace Sys2Proof.Machine

/-- Device modes (Table 6-1). -/
inductive Mode where
  | config | run | calibrate | loading | shutdown
  deriving DecidableEq, Repr

/-- Port roles (R135). -/
inductive Role where
  | none | ride | stability | preview
  deriving DecidableEq, Repr

/-- Status codes (Table 7-4). -/
inductive Status where
  | ok | accepted | clamped | frameError | notPermitted | badArg | full | notStaged | busy | noRequest
  deriving DecidableEq, Repr

/-- A response frame without its CRC-8, which R131 computes from these fields. -/
structure Response where
  status : Status
  tag : BitVec 3
  alert : Bool
  data : BitVec 16
  deriving DecidableEq, Repr

/-- Where a port stands in its transaction (R130). -/
inductive Transaction where
  /-- Chip select is high. -/
  | idle
  /-- Chip select is low and this response frame is being shifted out. -/
  | shifting (frame : BitVec 32)
  /-- Chip select is low in a transaction that a reset met: it is not taken. -/
  | lost
  deriving DecidableEq, Repr

/-- The preview staging record of a port (Table 2-3). -/
structure Staging where
  level : Nat
  attr : Bool
  copyFlag : Bool
  levelStaged : Bool
  span : Nat
  spanStaged : Bool
  deriving DecidableEq, Repr

/-- Link states (R142). -/
inductive LinkState where
  | live | silent
  deriving DecidableEq, Repr

/-- The edge causes of Table 8-1. -/
inductive EdgeCause where
  | linkLost | demandLapsed | previewDropped | modeChanged | storeDone | bankLogged
  deriving DecidableEq, Repr

/-- The level causes of Table 8-1. -/
inductive LevelCause where
  | shutdown | wheelFailsafe | wheelDegraded
  deriving DecidableEq, Repr

/-- Which edge causes are pending at a port (R144). -/
structure EdgeSet where
  linkLost : Bool
  demandLapsed : Bool
  previewDropped : Bool
  modeChanged : Bool
  storeDone : Bool
  bankLogged : Bool
  deriving DecidableEq, Repr

/-- Which level causes carry their reported mark at a port (R144). -/
structure MarkSet where
  shutdown : Bool
  wheelFailsafe : Bool
  wheelDegraded : Bool
  deriving DecidableEq, Repr

/-- What each port holds (Table 7-1, R144). -/
structure PortState where
  role : Role
  response : Response
  transaction : Transaction
  pointer : BitVec 12
  staging : Staging
  link : LinkState
  linkTimer : Option Nat
  noticeMask : Nat
  edges : EdgeSet
  reported : MarkSet
  deriving DecidableEq, Repr

/-- A demand record (Table 1-6). Its source is the position it stands in; a STABILITY record has no attribute. -/
structure DemandRecord where
  origin : Port
  level : Nat
  attr : Option Bool
  expiry : Nat
  deriving DecidableEq, Repr

/-- The two positions of one wheel in the demand table (R1). -/
structure DemandPair where
  ride : Option DemandRecord
  stability : Option DemandRecord
  deriving DecidableEq, Repr

/-- How an item entered its queue (Table 2-2). -/
inductive ItemOrigin where
  | direct
  | copy (front : Wheel)
  deriving DecidableEq, Repr

/-- A preview item (Table 2-2); `arrival` numbers the insertions, so that a greater number was inserted later (R37). -/
structure PreviewItem where
  trigger : BitVec 24
  span : Nat
  level : Nat
  attr : Bool
  origin : ItemOrigin
  active : Bool
  arrival : Nat
  deriving DecidableEq, Repr

/-- The travel state of the preview scheduler (Table 2-1), with the fixed advances still to be made (R29). -/
structure Travel where
  position : BitVec 24
  accumulator : Nat
  advances : Nat
  standstill : Bool
  standstillTimer : Option Nat
  deriving DecidableEq, Repr

/-- The preview queues, each in its order (R38), and the number the next insertion gets. -/
structure Preview where
  queues : PerWheel (List PreviewItem)
  arrivals : Nat
  deriving DecidableEq, Repr

/-- What the cycle timer took at the start of the current period (R55). -/
structure Period where
  length : Nat
  phases : PerWheel Nat
  deriving DecidableEq, Repr

/-- The cycle timer (Table 3-1); `periodStart` is the microsecond, counted from the timer's start, at which the
current period began. -/
structure CycleTimer where
  running : Bool
  counter : Nat
  period : Option Period
  periodStart : Nat
  deriving DecidableEq, Repr

/-- Wheel states (Table 5-1). -/
inductive WheelState where
  | off | active | degraded | failsafe
  deriving DecidableEq, Repr

/-- Sensor status (Table 3-4). -/
inductive SensorStatus where
  | ok | lost
  deriving DecidableEq, Repr

/-- The stroke fields of a wheel (Table 3-4); an absent last position is an unprimed wheel. -/
structure Stroke where
  status : SensorStatus
  bad : Nat
  good : Nat
  lastCode : Nat
  lastPosition : Option Int
  velocity : Int
  deriving DecidableEq, Repr

/-- The latched live parameters of a wheel (Table 3-3). -/
structure Latched where
  trim : Int
  imin : Nat
  imax : Nat
  slewUp : Nat
  slewDown : Nat
  kFilt : Nat
  defLevel : Nat
  band : Nat
  deriving DecidableEq, Repr

/-- Winners of an arbitration (R23). -/
inductive Winner where
  | default | ride | preview | stability
  deriving DecidableEq, Repr

/-- The results of a wheel's last arbitration (R26); an absent bank is a slot read itself. -/
structure Arbitrated where
  winner : Winner
  level : Nat
  attr : Bool
  slot : Fin 8
  bank : Option (Fin 2)
  deriving DecidableEq, Repr

/-- A valve driver (Table 5-4). -/
structure Driver where
  regulating : Bool
  commanded : Nat
  deriving DecidableEq, Repr

/-- What a wheel channel holds (Tables 3-3, 3-4, 4-4, 5-4, 5-5, R26); `lastExpiry` is the microsecond of its last
cycle expiry. -/
structure WheelRecord where
  state : WheelState
  latch : Bool
  stroke : Stroke
  latched : Latched
  arbitrated : Arbitrated
  mapResult : Nat
  target : Nat
  previousTarget : Option Nat
  driver : Driver
  measured : Nat
  openCount : Nat
  regulationCount : Nat
  lastExpiry : Option Nat
  deriving DecidableEq, Repr

/-- A RAM of 306 map entries: (offset, current) pairs, offsets rising, no current of 0; an unlisted offset reads 0
(R75, R76, R93). -/
abbrev Memory := List (Nat × Nat)

/-- A map slot (Table 4-1). -/
structure MapSlot where
  entries : Memory
  valid : Bool
  deriving DecidableEq, Repr

/-- An overlay bank (Table 4-9). -/
structure OverlayBank where
  entries : Memory
  binding : Option (Fin 8)
  deriving DecidableEq, Repr

/-- The map RAM and the overlay banks (R75, R93). -/
structure MapRam where
  slots : Vector MapSlot 8
  banks : Vector OverlayBank 2
  deriving DecidableEq, Repr

/-- A nonvolatile image (R153): values with their stored CRC-16, or one that never was, or was cut short or failed its
verify, whose contents nothing can read. -/
inductive Image (α : Type) where
  | invalid
  | stored (values : α) (crc : BitVec 16)
  deriving DecidableEq, Repr

/-- Store status (Table 7-9). -/
inductive StoreStatus where
  | ok | busy | failed | aborted
  deriving DecidableEq, Repr

/-- What a programming operation captured (R155): a slot's entries or the parameter values. -/
inductive Capture where
  | slot (k : Fin 8) (entries : Memory)
  | params (ps : Params)
  deriving DecidableEq, Repr

/-- An operation in flight (R155). -/
structure Operation where
  port : Port
  capture : Capture
  deriving DecidableEq, Repr

/-- The step of the load that completes next (R154). -/
inductive LoadStep where
  | parameterBlock
  | slot (k : Fin 8)
  | completion
  deriving DecidableEq, Repr

/-- The map store (Table 9-1). -/
structure MapStore where
  slotImages : Vector (Image Memory) 8
  paramImage : Image Params
  status : StoreStatus
  operation : Option Operation
  load : Option LoadStep
  deriving DecidableEq, Repr

/-- Error codes (Table 7-10). -/
inductive ErrorCode where
  | empty | strokeRange | strokeLost | coilOpen | coilShort | regulation | frameCrc | frameLength | linkSilent
  | roleConflict | paramBad | slotBad | programVerify | programAborted
  deriving DecidableEq, Repr

/-- The fields of an error bank (Table 8-2). -/
structure ErrorRecord where
  valid : Bool
  uncorrected : Bool
  overflow : Bool
  code : ErrorCode
  infoValid : Bool
  info : Nat
  deriving DecidableEq, Repr

/-- The six error banks (R150). -/
structure ErrorBanks where
  wheel : PerWheel ErrorRecord
  link : ErrorRecord
  store : ErrorRecord
  deriving DecidableEq, Repr

/-- The whole machine. `inReset` is set from the start of a reset to its end; `safeLow` and `calEn` are the levels of
those lines; `pending` are the commands that wait, the front one next. -/
structure State where
  inReset : Bool
  mode : Mode
  safeLow : Bool
  calEn : Bool
  msCount : Nat
  ports : PerPort PortState
  demands : PerWheel DemandPair
  travel : Travel
  preview : Preview
  timer : CycleTimer
  wheels : PerWheel WheelRecord
  params : Params
  map : MapRam
  store : MapStore
  errors : ErrorBanks
  pending : List Instr
  deriving DecidableEq, Repr

/-- Reasons for which the part stops. The spec names none: every command has a next state, so no one raises a fault
(safe). -/
inductive Fault where
  deriving DecidableEq, Repr

/-- Reasons for which a command has no meaning. -/
inductive Refusal where
  /-- Raised by an arm of `exec` for a command of the table that has no meaning yet; every command has one, so none
  raises it (safe). -/
  | notModelled (mnemonic : String)
  deriving DecidableEq, Repr

/-- A cleared staging record (R39). -/
def Staging.clear : Staging := ⟨0, false, false, false, 0, false⟩

/-- An empty set of pending edge causes (R144). -/
def EdgeSet.none : EdgeSet := ⟨false, false, false, false, false, false⟩

/-- No reported mark (R144). -/
def MarkSet.none : MarkSet := ⟨false, false, false⟩

/-- A port after reset (Table 7-1); its role is NONE until the straps are sampled (log 4). -/
def PortState.reset : PortState where
  role := .none
  response := ⟨.noRequest, 0, false, 0⟩
  transaction := .idle
  pointer := 0
  staging := Staging.clear
  link := .live
  linkTimer := .none
  noticeMask := 9
  edges := EdgeSet.none
  reported := MarkSet.none

/-- The latched copies after reset: the defaults of Table 7-8 (R59). -/
def Latched.reset : Latched := ⟨0, 250, 1800, 50, 50, 8, 512, 100⟩

/-- A wheel channel after reset (Tables 3-4, 4-4, 5-4, 5-5, R26). -/
def WheelRecord.reset : WheelRecord where
  state := .off
  latch := false
  stroke := ⟨.ok, 0, 0, 0, none, 0⟩
  latched := Latched.reset
  arbitrated := ⟨.default, 0, false, 0, none⟩
  mapResult := 0
  target := 0
  previousTarget := none
  driver := ⟨false, 0⟩
  measured := 0
  openCount := 0
  regulationCount := 0
  lastExpiry := none

/-- An empty error bank (Table 8-2). -/
def ErrorRecord.clear : ErrorRecord := ⟨false, false, false, .empty, false, 0⟩

/-- The machine right after a power-on reset has taken effect, the end of that reset still to come (R1, R26, R33, R36,
R39, R54, R59, R65, R76, R84, R86, R89, R93, R100, R107-R109, R118, R130, R137, R143, R144, R147, R150; logs 4, 9, 10,
12, 14, 15). -/
def State.reset : State where
  inReset := true
  mode := .loading
  safeLow := false
  calEn := false
  msCount := 0
  ports := PerPort.same PortState.reset
  demands := PerWheel.same ⟨none, none⟩
  travel := ⟨0, 0, 0, true, none⟩
  preview := ⟨PerWheel.same [], 0⟩
  timer := ⟨false, 0, none, 0⟩
  wheels := PerWheel.same WheelRecord.reset
  params := paramDefaults
  map := ⟨Vector.replicate 8 ⟨[], false⟩, Vector.replicate 2 ⟨[], none⟩⟩
  store := ⟨Vector.replicate 8 .invalid, .invalid, .ok, none, none⟩
  errors := ⟨PerWheel.same ErrorRecord.clear, ErrorRecord.clear, ErrorRecord.clear⟩
  pending := []

end Sys2Proof.Machine
end

