-- ==== Sys2Proof/Machine/Operands.lean ====
section
/-! DEFINITION. The operand forms: wheel masks, the layouts of the 12-bit data field (Table 7-5), the codes a response
carries (Tables 5-1, 6-1, 7-4, 7-9, 7-10, 7-11), and the index windows of the parameter space (Table 7-7). -/

namespace Sys2Proof.Machine

/-- A wheel mask names wheel n by its bit n (section 1.5.1). -/
def namesWheel (mask : BitVec 4) (w : Wheel) : Bool := mask.getLsbD w.num

/-- The mask that names exactly the wheels of a predicate. -/
def maskOf (f : Wheel → Bool) : BitVec 4 :=
  ((BitVec.ofBool (f .rr) ++ BitVec.ofBool (f .rl)) ++ BitVec.ofBool (f .fr)) ++ BitVec.ofBool (f .fl)

/-- Level of SET_LEVEL, SET_FLOOR and PREVIEW_LEVEL: data bits 11-2 (Table 7-5). -/
def dataLevel (d : BitVec 12) : Nat := (d.extractLsb' 2 10).toNat

/-- Attribute of SET_LEVEL and PREVIEW_LEVEL: data bit 1 (Table 7-5). -/
def dataAttr (d : BitVec 12) : Bool := d.getLsbD 1

/-- Copy flag of PREVIEW_LEVEL: data bit 0 (Table 7-5). -/
def dataCopy (d : BitVec 12) : Bool := d.getLsbD 0

/-- Response data of a natural number. -/
def word16 (n : Nat) : BitVec 16 := BitVec.ofNat 16 n

/-- Response data of a flag. -/
def flag16 (b : Bool) : BitVec 16 := if b then 1 else 0

/-- Codes of Table 6-1. -/
def modeCode : Mode → Nat
  | .config => 0
  | .run => 1
  | .calibrate => 2
  | .loading => 3
  | .shutdown => 4

/-- Codes of Table 7-4. -/
def statusCode : Status → BitVec 4
  | .ok => 0
  | .accepted => 1
  | .clamped => 2
  | .frameError => 3
  | .notPermitted => 4
  | .badArg => 5
  | .full => 6
  | .notStaged => 7
  | .busy => 8
  | .noRequest => 9

/-- Codes of Table 5-1. -/
def wheelStateCode : WheelState → Nat
  | .off => 0
  | .active => 1
  | .degraded => 2
  | .failsafe => 3

/-- Codes of Table 7-11, offset 02h. -/
def sensorCode : SensorStatus → Nat
  | .ok => 0
  | .lost => 1

/-- Codes of Table 7-11, offset 0Ah. -/
def winnerCode : Winner → Nat
  | .default => 0
  | .ride => 1
  | .preview => 2
  | .stability => 3

/-- Codes of index 107h (Table 7-9). -/
def storeStatusCode : StoreStatus → Nat
  | .ok => 0
  | .busy => 1
  | .failed => 2
  | .aborted => 3

/-- Codes of Table 7-10. -/
def errorCode : ErrorCode → Nat
  | .empty => 0
  | .strokeRange => 1
  | .strokeLost => 2
  | .coilOpen => 3
  | .coilShort => 4
  | .regulation => 5
  | .frameCrc => 6
  | .frameLength => 7
  | .linkSilent => 8
  | .roleConflict => 9
  | .paramBad => 10
  | .slotBad => 11
  | .programVerify => 12
  | .programAborted => 13

/-- A slot or a bank's binding as read: 0..7, or 15 for none (R99). -/
def bindingCode : Option (Fin 8) → Nat
  | some k => k.val
  | none => 15

/-- The bank used as read: 0, 1, or 15 for absent (Table 7-11). -/
def bankUsedCode : Option (Fin 2) → Nat
  | some b => b.val
  | none => 15

/-- Role of a strap value (R135). -/
def roleOfStrap (v : BitVec 2) : Role :=
  match v.toNat with
  | 0 => .none
  | 1 => .ride
  | 2 => .stability
  | _ => .preview

/-- A response as it is shifted out (Table 7-3). -/
def responsePayload (r : Response) : BitVec 24 :=
  statusCode r.status ++ r.tag ++ BitVec.ofBool r.alert ++ r.data

/-- What an index of the parameter space names (Tables 7-7 and 7-9). -/
inductive Place where
  | param (k : Param)
  | mode | standstill | positionLow | positionHigh | slotValidity
  | binding (b : Fin 2)
  | storeStatus
  | heldCount (w : Wheel)
  | activeCount (w : Wheel)
  | errorField (bank field : Nat)
  | identity
  | demandField (w : Wheel) (src : Source) (field : Nat)
  | wheelField (w : Wheel) (field : Nat)
  | mapEntry (slot : Fin 8) (offset : Nat)
  | overlayEntry (bank : Fin 2) (offset : Nat)
  | unmapped
  deriving DecidableEq, Repr

/-- A wheel's read-only place among four consecutive indices. -/
def fourWheels (i : Nat) (f : Wheel → Place) : Place := f (Wheel.ofNum i)

/-- The read-only indices 100h-1FFh (Table 7-9). -/
def readOnlyPlace (i : Nat) : Place :=
  if i = 0x100 then .mode
  else if i = 0x101 then .standstill
  else if i = 0x102 then .positionLow
  else if i = 0x103 then .positionHigh
  else if i = 0x104 then .slotValidity
  else if i = 0x105 then .binding 0
  else if i = 0x106 then .binding 1
  else if i = 0x107 then .storeStatus
  else if i < 0x10C then fourWheels (i - 0x108) .heldCount
  else if i < 0x110 then fourWheels (i - 0x10C) .activeCount
  else if i = 0x13F then .identity
  else if i < 0x140 then
    if (i - 0x110) % 8 < 6 then .errorField ((i - 0x110) / 8) ((i - 0x110) % 8) else .unmapped
  else if i < 0x180 then
    if (i - 0x140) % 8 < 5 then
      .demandField (Wheel.ofNum ((i - 0x140) / 16)) (if (i - 0x140) % 16 < 8 then .ride else .stability)
        ((i - 0x140) % 8)
    else .unmapped
  else
    if (i - 0x180) % 32 < 0x14 then .wheelField (Wheel.ofNum ((i - 0x180) / 32)) ((i - 0x180) % 32) else .unmapped

/-- The place of an index (Table 7-7). -/
def placeOf (index : BitVec 12) : Place :=
  let i := index.toNat
  if i < 0x100 then
    match paramAt i with
    | some k => .param k
    | none => .unmapped
  else if i < 0x200 then readOnlyPlace i
  else if i < 0xB90 then .mapEntry (Fin.ofNat 8 ((i - 0x200) / Config.slotEntries)) ((i - 0x200) % Config.slotEntries)
  else if i < 0xC00 then .unmapped
  else if i < 0xE64 then
    .overlayEntry (Fin.ofNat 2 ((i - 0xC00) / Config.slotEntries)) ((i - 0xC00) % Config.slotEntries)
  else .unmapped

/-- Offset of an entry within its slot or bank (R75). -/
def entryOffset (plane row column : Nat) : Nat :=
  plane * Config.planeEntries + row * Config.rowColumns + column

end Sys2Proof.Machine
end

