-- ==== Sys2Proof/Machine/Ops.lean ====
section
/-! DEFINITION. The named reads and writes of State: map memory, ports, wheels, demand positions, slots, banks, error
banks. Every other file goes through these. -/

namespace Sys2Proof.Machine

/-- An entry of a map memory; an unlisted offset reads 0 (R76, R93). -/
def Memory.read : Memory → Nat → Nat
  | [], _ => 0
  | (k, v) :: rest, a => if k = a then v else Memory.read rest a

/-- Another entry, in canonical form: offsets rising, no entry of 0. -/
def Memory.write : Memory → Nat → Nat → Memory
  | [], a, x => if x = 0 then [] else [(a, x)]
  | (k, v) :: rest, a, x =>
    if a < k then (if x = 0 then (k, v) :: rest else (a, x) :: (k, v) :: rest)
    else if a = k then (if x = 0 then rest else (a, x) :: rest)
    else (k, v) :: Memory.write rest a x

/-- The canonical form of a map memory: offsets rising, no entry of 0. -/
def Memory.wf (m : Memory) : Bool :=
  decide (m.Pairwise fun x y => x.1 < y.1) && m.all fun x => x.2 != 0

/-- Every entry of a map memory is a current of 0..2,000 mA at an offset of the slot (R75). -/
def Memory.inRange (m : Memory) : Bool :=
  m.all fun x => decide (x.1 < Config.slotEntries) && decide (x.2 ≤ Config.entryMax)

/-- The 306 values of a memory in index order, each as 16 bits (R153). -/
def memoryWords (m : Memory) : List (BitVec 16) :=
  (List.range Config.slotEntries).map fun k => word16 (Memory.read m k)

/-- One port's state. -/
def portOf (s : State) (p : Port) : PortState := s.ports.get p

/-- A change of one port's state. -/
def modifyPort (s : State) (p : Port) (f : PortState → PortState) : State :=
  { s with ports := s.ports.modify p f }

/-- A change of every port's state. -/
def modifyPorts (s : State) (f : Port → PortState → PortState) : State :=
  { s with ports := s.ports.mapWith f }

/-- One wheel channel. -/
def wheelOf (s : State) (w : Wheel) : WheelRecord := s.wheels.get w

/-- A change of one wheel channel. -/
def modifyWheel (s : State) (w : Wheel) (f : WheelRecord → WheelRecord) : State :=
  { s with wheels := s.wheels.modify w f }

/-- The position of a source in a wheel's pair (R1). -/
def positionOf (d : DemandPair) : Source → Option DemandRecord
  | .ride => d.ride
  | .stability => d.stability

/-- Another content of one position. -/
def setPosition (d : DemandPair) (src : Source) (r : Option DemandRecord) : DemandPair :=
  match src with
  | .ride => { d with ride := r }
  | .stability => { d with stability := r }

/-- One position of the demand table (R1). -/
def demandOf (s : State) (w : Wheel) (src : Source) : Option DemandRecord := positionOf (s.demands.get w) src

/-- Another content of one position of the demand table. -/
def setDemand (s : State) (w : Wheel) (src : Source) (r : Option DemandRecord) : State :=
  { s with demands := s.demands.modify w (setPosition · src r) }

/-- A source's position of every named wheel, replaced (R4, R5, R7). -/
def setNamedDemands (s : State) (mask : BitVec 4) (src : Source) (r : Option DemandRecord) : State :=
  { s with demands := s.demands.mapWith fun w d => if namesWheel mask w then setPosition d src r else d }

/-- The whole demand table emptied (R13, R14). -/
def emptyDemands (s : State) : State :=
  { s with demands := PerWheel.same ⟨none, none⟩ }

/-- One preview queue. -/
def queueOf (s : State) (w : Wheel) : List PreviewItem := s.preview.queues.get w

/-- All four preview queues emptied (R51). -/
def emptyQueues (s : State) : State :=
  { s with preview := { s.preview with queues := PerWheel.same [] } }

/-- A map slot. -/
def slotOf (s : State) (k : Fin 8) : MapSlot := s.map.slots[k]

/-- Another map slot. -/
def setSlot (s : State) (k : Fin 8) (x : MapSlot) : State :=
  { s with map := { s.map with slots := s.map.slots.set k x } }

/-- An overlay bank. -/
def bankOf (s : State) (b : Fin 2) : OverlayBank := s.map.banks[b]

/-- Another overlay bank. -/
def setBank (s : State) (b : Fin 2) (x : OverlayBank) : State :=
  { s with map := { s.map with banks := s.map.banks.set b x } }

/-- The bank that a slot is bound to, if any (R25). -/
def bankBoundTo (s : State) (k : Fin 8) : Option (Fin 2) :=
  if (bankOf s 0).binding = some k then some 0
  else if (bankOf s 1).binding = some k then some 1
  else none

/-- Both overlay banks unbound without commit (R97). -/
def unbindBanks (s : State) : State :=
  { s with map := { s.map with banks := s.map.banks.map fun b => { b with binding := none } } }

/-- A parameter as it stands in the parameter space. -/
def param (s : State) (k : Param) : Nat := natParam s.params k

/-- The six error banks by name (R150). -/
inductive BankId where
  | wheel (w : Wheel)
  | link
  | store
  deriving DecidableEq, Repr

/-- The bank of a number 0..5 (Table 8-3). -/
def bankIdOf : Nat → Option BankId
  | 0 => some (.wheel .fl)
  | 1 => some (.wheel .fr)
  | 2 => some (.wheel .rl)
  | 3 => some (.wheel .rr)
  | 4 => some .link
  | 5 => some .store
  | _ => none

/-- An error bank. -/
def errorBank (s : State) : BankId → ErrorRecord
  | .wheel w => s.errors.wheel.get w
  | .link => s.errors.link
  | .store => s.errors.store

/-- Another content of an error bank. -/
def setErrorBank (s : State) (k : BankId) (r : ErrorRecord) : State :=
  match k with
  | .wheel w => { s with errors := { s.errors with wheel := s.errors.wheel.set w r } }
  | .link => { s with errors := { s.errors with link := r } }
  | .store => { s with errors := { s.errors with store := r } }

/-- The port that holds a role, if one does (R135). -/
def holder (s : State) (r : Role) : Option Port :=
  Port.all.find? fun p => (portOf s p).role == r

/-- A state change made only outside a reset: while RESET lasts nothing is taken (R29, R130; log 5). -/
def unlessInReset (s : State) (f : State → State) : State :=
  if s.inReset then s else f s

end Sys2Proof.Machine
end

