-- ==== Sys2Proof/Machine/Flags.lean ====
section
/-! DEFINITION. Notice causes, reported marks, the ALERT lines (R144-R149) and the arrival of errors at their banks (R151). -/

namespace Sys2Proof.Machine

/-- A notice cause (Table 8-1). -/
inductive Cause where
  | level (l : LevelCause)
  | edge (e : EdgeCause)
  deriving DecidableEq, Repr

/-- Number of a cause (Table 8-1). -/
def causeNum : Cause → Nat
  | .level .shutdown => 0
  | .level .wheelFailsafe => 1
  | .edge .linkLost => 2
  | .level .wheelDegraded => 3
  | .edge .demandLapsed => 4
  | .edge .previewDropped => 5
  | .edge .modeChanged => 6
  | .edge .storeDone => 7
  | .edge .bankLogged => 8

/-- The nine causes by number (Table 8-1). -/
def causeList : List Cause :=
  [.level .shutdown, .level .wheelFailsafe, .edge .linkLost, .level .wheelDegraded, .edge .demandLapsed,
   .edge .previewDropped, .edge .modeChanged, .edge .storeDone, .edge .bankLogged]

/-- An edge cause is in the set. -/
def edgeIn (x : EdgeSet) : EdgeCause → Bool
  | .linkLost => x.linkLost
  | .demandLapsed => x.demandLapsed
  | .previewDropped => x.previewDropped
  | .modeChanged => x.modeChanged
  | .storeDone => x.storeDone
  | .bankLogged => x.bankLogged

/-- An edge cause put into the set or taken out of it. -/
def setEdge (x : EdgeSet) (e : EdgeCause) (v : Bool) : EdgeSet :=
  match e with
  | .linkLost => { x with linkLost := v }
  | .demandLapsed => { x with demandLapsed := v }
  | .previewDropped => { x with previewDropped := v }
  | .modeChanged => { x with modeChanged := v }
  | .storeDone => { x with storeDone := v }
  | .bankLogged => { x with bankLogged := v }

/-- A level cause's reported mark. -/
def markIn (x : MarkSet) : LevelCause → Bool
  | .shutdown => x.shutdown
  | .wheelFailsafe => x.wheelFailsafe
  | .wheelDegraded => x.wheelDegraded

/-- A level cause's reported mark set or cleared. -/
def setMark (x : MarkSet) (l : LevelCause) (v : Bool) : MarkSet :=
  match l with
  | .shutdown => { x with shutdown := v }
  | .wheelFailsafe => { x with wheelFailsafe := v }
  | .wheelDegraded => { x with wheelDegraded := v }

/-- At least one wheel is in a state. -/
def someWheelIn (s : State) (st : WheelState) : Bool :=
  Wheel.all.any fun w => (wheelOf s w).state == st

/-- The condition of a level cause (Table 8-1, R114, R129). -/
def levelHolds (s : State) : LevelCause → Bool
  | .shutdown => s.mode == .shutdown
  | .wheelFailsafe => someWheelIn s .failsafe
  | .wheelDegraded => someWheelIn s .degraded

/-- A cause is pending at a port: a level cause while its condition holds, an edge cause once raised (R145, R146). -/
def isPending (s : State) (p : Port) : Cause → Bool
  | .level l => levelHolds s l
  | .edge e => edgeIn (portOf s p).edges e

/-- The ALERT line of a port is asserted (R148). -/
def alertOf (s : State) (p : Port) : Bool :=
  causeList.any fun c => isPending s p c && decide (causeNum c < (portOf s p).noticeMask)

/-- An edge cause raised at one port (R145). -/
def raiseAt (s : State) (e : EdgeCause) (p : Port) : State :=
  modifyPort s p fun x => { x with edges := setEdge x.edges e true }

/-- An edge cause raised at every port (R129). -/
def raiseEverywhere (s : State) (e : EdgeCause) : State :=
  modifyPorts s fun _ x => { x with edges := setEdge x.edges e true }

/-- An edge cause raised at the two other ports (R142, R145). -/
def raiseAtOthers (s : State) (e : EdgeCause) (p : Port) : State :=
  modifyPorts s fun q x => if q = p then x else { x with edges := setEdge x.edges e true }

/-- An edge cause raised at the port that holds a role; not raised at all where none does (R145). -/
def raiseAtRole (s : State) (e : EdgeCause) (r : Role) : State :=
  match holder s r with
  | some p => raiseAt s e p
  | none => s

/-- The cause that a NOTICE returns: the lowest-numbered pending one that is not a reported level cause (R149). -/
def waitingCause (s : State) (p : Port) : Option Cause :=
  causeList.find? fun c =>
    isPending s p c &&
      match c with
      | .level l => !markIn (portOf s p).reported l
      | .edge _ => true

/-- The acknowledgement of the cause a NOTICE returned (R149). -/
def acknowledge (s : State) (p : Port) : Cause → State
  | .level l => modifyPort s p fun x => { x with reported := setMark x.reported l true }
  | .edge e => modifyPort s p fun x => { x with edges := setEdge x.edges e false }

/-- A wheel that is in a state now and was not before. -/
def newlyIn (before after : State) (st : WheelState) : Bool :=
  Wheel.all.any fun w => (wheelOf after w).state == st && (wheelOf before w).state != st

/-- The reported marks of one port after an event that took the wheels from one state to another: the mark of a wheel
cause goes when the cause ends and when a further wheel enters the state (R146). -/
def settledMarks (before after : State) (m : MarkSet) : MarkSet :=
  { m with
    wheelFailsafe := m.wheelFailsafe && someWheelIn after .failsafe && !newlyIn before after .failsafe
    wheelDegraded := m.wheelDegraded && someWheelIn after .degraded && !newlyIn before after .degraded }

/-- The reported marks of every port brought up to date with the wheel states (R146). -/
def settleMarks (before after : State) : State :=
  modifyPorts after fun _ x => { x with reported := settledMarks before after x.reported }

/-- Errors of the uncorrected class (Table 8-3). -/
def isUncorrected : ErrorCode → Bool
  | .strokeLost | .coilOpen | .coilShort | .paramBad | .programVerify => true
  | .empty | .strokeRange | .regulation | .frameCrc | .frameLength | .linkSilent | .roleConflict | .slotBad
  | .programAborted => false

/-- How a bank takes an arriving error (R151). -/
def takeError (b : ErrorRecord) (code : ErrorCode) (info : Option Nat) : ErrorRecord :=
  if b.valid && b.uncorrected then { b with overflow := true }
  else
    { valid := true
      uncorrected := isUncorrected code
      overflow := b.overflow || b.valid
      code := code
      infoValid := info.isSome
      info := info.getD 0 }

/-- An error arrives at its bank and raises BANK_LOGGED at the RIDE port (R151). -/
def logError (s : State) (k : BankId) (code : ErrorCode) (info : Option Nat) : State :=
  raiseAtRole (setErrorBank s k (takeError (errorBank s k) code info)) .bankLogged .ride

end Sys2Proof.Machine
end

