-- ==== Sys2Proof/Machine/Frames.lean ====
section
/-! DEFINITION. The taking of a request frame, shared by every good-frame command: link, acceptance, owner, link timer,
response (R130, R131, R134, R136, R137, R141, R142). -/

namespace Sys2Proof.Machine

/-- The commands of Table 7-6; `unassigned` stands for the codes 13h-1Fh (R136). -/
inductive Command where
  | nop | setLevel | setFloor | release | preview | select | get | put | mode | notice | clearBank
  | storeProgram | storeAbort | overlay | unassigned
  deriving DecidableEq, Repr

/-- The role admits the command (Table 7-6). -/
def roleAdmits : Command → Role → Bool
  | .nop, _ | .select, _ | .get, _ => true
  | .setLevel, r | .put, r | .mode, r | .clearBank, r | .storeProgram, r | .storeAbort, r | .overlay, r =>
    r == .ride
  | .setFloor, r => r == .stability
  | .release, r => r == .ride || r == .stability
  | .preview, r => r == .preview
  | .notice, r => r != .none
  | .unassigned, _ => false

/-- The device mode admits the command (Table 7-6). -/
def modeAdmits : Command → Mode → Bool
  | .nop, _ | .select, _ | .get, _ | .notice, _ => true
  | .setLevel, m | .setFloor, m | .release, m | .put, m | .mode, m | .storeAbort, m =>
    m == .config || m == .run || m == .calibrate
  | .preview, m => m == .run || m == .calibrate
  | .clearBank, m => m != .loading
  | .storeProgram, m => m == .config || m == .calibrate
  | .overlay, m => m == .calibrate
  | .unassigned, _ => false

/-- The command is admitted from a port in the present mode (R136). -/
def admitted (s : State) (p : Port) (c : Command) : Bool :=
  roleAdmits c (portOf s p).role && modeAdmits c s.mode

/-- What a command's owner gives: the state it leaves, a status and response data (R134). -/
structure Answer where
  state : State
  status : Status
  data : BitVec 16

/-- An answer OK with data (R131: 0000h where no data is given). -/
def okWith (s : State) (data : BitVec 16 := 0) : Answer := ⟨s, .ok, data⟩

/-- An answer that changes nothing. -/
def refuseWith (s : State) (status : Status) (data : BitVec 16 := 0) : Answer := ⟨s, status, data⟩

/-- The port takes the transaction now ending: no reset lasts, and none has met the transaction (R130; log 15). -/
def takesTransaction (s : State) (p : Port) : Bool :=
  !s.inReset && (portOf s p).transaction != .lost

/-- The end of a transaction that is not taken (R130). -/
def dropTransaction (s : State) (p : Port) : State :=
  modifyPort s p fun x => { x with transaction := .idle }

/-- A good frame makes a SILENT port LIVE (R134 step 1, R142). -/
def makeLive (s : State) (p : Port) : State :=
  modifyPort s p fun x => { x with link := .live }

/-- The index pointer advances by one, FFFh to 000h (R137). -/
def advancePointer (s : State) (p : Port) : State :=
  modifyPort s p fun x => { x with pointer := x.pointer + 1 }

/-- The link timer after a good frame (R141). -/
def restartedLink (s : State) (p : Port) : Option Nat :=
  match s.mode with
  | .config | .run | .calibrate =>
    if param s (.linkTimeout p) = 0 then none else some (s.msCount + param s (.linkTimeout p))
  | .loading | .shutdown => (portOf s p).linkTimer

/-- The restart of the link timer (R134 step 4, R141). A frame taken first at the instant of its port's link expiry restarts
the timer and the silence does not come (R142), so values that a PREVIEW_LEVEL or PREVIEW_SPAN staged then stay. R50's last
sentences say of those two that the silence then clears them: DESIGN CHOICE for R142 (log 30). -/
def restartLink (s : State) (p : Port) : State :=
  modifyPort s p fun x => { x with linkTimer := restartedLink s p }

/-- The response placed in the slot at the end of the request (R130, R131). -/
def respond (s : State) (p : Port) (tag : BitVec 3) (status : Status) (data : BitVec 16) : State :=
  modifyPort s p fun x =>
    { x with response := ⟨status, tag, alertOf s p, data⟩, transaction := .idle }

/-- The acceptance and the owner's work (R134 steps 2 and 3). -/
def judge (s : State) (p : Port) (c : Command) (owner : State → Answer) : Answer :=
  if admitted s p c then owner s else refuseWith s .notPermitted

/-- PUT and GET advance the pointer whatever their status (R137). -/
def pointerStep (c : Command) (s : State) (p : Port) : State :=
  if c = .put ∨ c = .get then advancePointer s p else s

/-- A good frame at a port: steps 1 to 5 of R134. -/
def takeFrame (h : Header) (c : Command) (owner : State → Answer) (s : State) : State :=
  if takesTransaction s h.port then
    let a := judge (makeLive s h.port) h.port c owner
    respond (restartLink (pointerStep c a.state h.port) h.port) h.port h.tag a.status a.data
  else dropTransaction s h.port

end Sys2Proof.Machine
end

