-- ==== Sys2Proof/Machine/Ports.lean ====
section
/-! DEFINITION. The port interface: NOP, SELECT, unassigned codes, framing errors, the start of a transaction, link silence. -/

namespace Sys2Proof.Machine

/-- NOP (R134): answered OK with data 0000h. -/
def execNop (h : Header) (_data : BitVec 12) (s : State) : Host.Outcome State Fault Refusal :=
  .next (takeFrame h .nop (fun s => okWith s) s)

/-- SELECT at the parameter space (R137). -/
def selectIndex (p : Port) (data : BitVec 12) (s : State) : Answer :=
  okWith (modifyPort s p fun x => { x with pointer := data }) (data.setWidth 16)

/-- SELECT (R137). -/
def execSelect (h : Header) (data : BitVec 12) (s : State) : Host.Outcome State Fault Refusal :=
  .next (takeFrame h .select (selectIndex h.port data) s)

/-- A good frame with a command code of 13h-1Fh is refused (R136). -/
def execUnassignedCommand (h : Header) (_code : BitVec 5) (_data : BitVec 12) (s : State) :
    Host.Outcome State Fault Refusal :=
  .next (takeFrame h .unassigned (fun s => refuseWith s .notPermitted) s)

/-- The tag echoed for a framing error: bits 10-8 of the bits received, placed from bit 31 downward (R133). -/
def receivedTag (bits : List Bool) : BitVec 3 := frameTag (wordOfBits 32 bits)

/-- A length error, or else a CRC error (R133). -/
def framingCode (bits : List Bool) : ErrorCode :=
  if bits.length = 32 then .frameCrc else .frameLength

/-- A framing error at a port: logged in LINK and answered FRAME_ERROR, nothing else (R133). -/
def takeFramingError (p : Port) (bits : List Bool) (s : State) : State :=
  if takesTransaction s p then
    respond (logError s .link (framingCode bits) (some p.num)) p (receivedTag bits) .frameError 0
  else dropTransaction s p

/-- FRAMING_ERROR (R133). -/
def execFramingError (p : Port) (bits : List Bool) (s : State) : Host.Outcome State Fault Refusal :=
  .next (takeFramingError p bits s)

/-- The response frame a port would shift out now (R130, R131). -/
def slotFrame (s : State) (p : Port) : BitVec 32 := sealFrame (responsePayload (portOf s p).response)

/-- The start of a transaction (R130): the port takes the frame of its response slot for shifting out. One that begins
while a reset lasts is lost (log 15). DESIGN CHOICE (log 15): a fall queued while chip select is already low, which the spec
does not have, begins a transaction anew, in place of a shifting and of a lost one alike. -/
def beginTransaction (p : Port) (s : State) : State :=
  modifyPort s p fun x =>
    { x with transaction := if s.inReset then .lost else .shifting (slotFrame s p) }

/-- CHIP_SELECT_FALL (R130). -/
def execChipSelectFall (p : Port) (s : State) : Host.Outcome State Fault Refusal :=
  .next (beginTransaction p s)

/-- What SDO carries after k clocks of the present transaction: bit 31 first, 0 after the 32nd bit, high impedance (none)
while chip select is high (R130, Table 1-1). In a transaction that a reset met, chip select being low still, the spec is
silent: a free value (log 15). -/
def sdoBit (s : State) (p : Port) (k : Nat) : Option Bool :=
  match (portOf s p).transaction with
  | .shifting f => some (f.getMsbD k)
  | .idle => none
  | .lost => Config.lostSdo p.num k

/-- A wheel's two positions without the records of one origin (R11). -/
def withoutOrigin (p : Port) (d : DemandPair) : DemandPair :=
  ⟨d.ride.filter fun r => r.origin != p, d.stability.filter fun r => r.origin != p⟩

/-- The demand table without the records of a silent port (R11). -/
def removeOrigin (p : Port) (s : State) : State :=
  { s with demands := s.demands.mapWith fun _ d => withoutOrigin p d }

/-- The port itself at silence: SILENT, timer stopped, staging cleared (R142, R50). -/
def silencePort (p : Port) (s : State) : State :=
  modifyPort s p fun x => { x with link := .silent, linkTimer := none, staging := Staging.clear }

/-- The effects of a port becoming SILENT (R142). -/
def becomeSilent (p : Port) (s : State) : State :=
  logError (raiseAtOthers (removeOrigin p (silencePort p s)) .linkLost p) .link .linkSilent (some p.num)

/-- A timer's expiry boundary has come (R3, R33, R142; log 7). -/
def isDue (s : State) (timer : Option Nat) : Bool :=
  match timer with
  | some n => decide (n ≤ s.msCount)
  | none => false

/-- The expiry of a port's link timer; it does not come while the timer is stopped or its boundary is ahead (R142). -/
def expireLink (p : Port) (s : State) : State :=
  if isDue s (portOf s p).linkTimer then becomeSilent p s else s

/-- LINK_TIMER_EXPIRY (R142). -/
def execLinkTimerExpiry (p : Port) (s : State) : Host.Outcome State Fault Refusal :=
  .next (unlessInReset s (expireLink p))

end Sys2Proof.Machine
end

