-- ==== Sys2Proof/Machine/Demand.lean ====
section
/-! DEFINITION. The demand table (chapter 1): creating, refreshing, releasing and expiring records. -/

namespace Sys2Proof.Machine

/-- The expiry boundary of a record created or refreshed now: boundary n plus ten times the hold parameter (R3, R6). -/
def holdExpiry (s : State) (hold : Param) : Nat := s.msCount + 10 * param s hold

/-- SET_LEVEL at the demand table (R4). -/
def setLevel (h : Header) (data : BitVec 12) (s : State) : Answer :=
  if h.mask = 0 then refuseWith s .badArg
  else okWith (setNamedDemands s h.mask .ride
    (some ⟨h.port, dataLevel data, some (dataAttr data), holdExpiry s .holdRide⟩))

/-- SET_LEVEL (R4). -/
def execSetLevel (h : Header) (data : BitVec 12) (s : State) : Host.Outcome State Fault Refusal :=
  .next (takeFrame h .setLevel (setLevel h data) s)

/-- SET_FLOOR at the demand table (R5). -/
def setFloor (h : Header) (data : BitVec 12) (s : State) : Answer :=
  if h.mask = 0 then refuseWith s .badArg
  else okWith (setNamedDemands s h.mask .stability
    (some ⟨h.port, dataLevel data, none, holdExpiry s .holdStab⟩))

/-- SET_FLOOR (R5). -/
def execSetFloor (h : Header) (data : BitVec 12) (s : State) : Host.Outcome State Fault Refusal :=
  .next (takeFrame h .setFloor (setFloor h data) s)

/-- The source a RELEASE acts on: the role of the sending port (R7). -/
def releaseSource (r : Role) : Source :=
  match r with
  | .stability => .stability
  | .ride | .preview | .none => .ride

/-- RELEASE at the demand table (R7). -/
def release (h : Header) (s : State) : Answer :=
  if h.mask = 0 then refuseWith s .badArg
  else okWith (setNamedDemands s h.mask (releaseSource (portOf s h.port).role) none)

/-- RELEASE (R7). -/
def execRelease (h : Header) (_data : BitVec 12) (s : State) : Host.Outcome State Fault Refusal :=
  .next (takeFrame h .release (release h) s)

/-- The expiry of one record (R8, R19); it does not come for an empty position or a boundary still ahead. -/
def expireDemand (w : Wheel) (src : Source) (s : State) : State :=
  match demandOf s w src with
  | some r => if r.expiry ≤ s.msCount then raiseAt (setDemand s w src none) .demandLapsed r.origin else s
  | none => s

/-- DEMAND_RECORD_EXPIRY (R8). -/
def execDemandRecordExpiry (w : Wheel) (src : Source) (s : State) : Host.Outcome State Fault Refusal :=
  .next (unlessInReset s (expireDemand w src))

/-- The next millisecond begins (R3). -/
def tickMillisecond (s : State) : State := { s with msCount := s.msCount + 1 }

/-- MILLISECOND_BOUNDARY (R3). -/
def execMillisecondBoundary (s : State) : Host.Outcome State Fault Refusal :=
  .next (unlessInReset s tickMillisecond)

/-- The remaining time of a record, in boundaries up to and including its expiry (R3). A record whose boundary has
come and whose expiry is still to be taken reads 1 (log 7). -/
def remainingTime (s : State) (r : DemandRecord) : Nat := max 1 (r.expiry - s.msCount)

end Sys2Proof.Machine
end

