-- ==== Sys2Proof/Machine/Travel.lean ====
section
/-! DEFINITION. Travel and the preview queues (chapter 2): pulses, advances, standstill, staging, insertion, cancelling. -/

namespace Sys2Proof.Machine

/-- A position is reached (R32). -/
def reached (position x : BitVec 24) : Bool := decide ((position - x).toNat < 0x800000)

/-- The signed distance from P to a position (R32). -/
def distanceTo (position x : BitVec 24) : Int := (x - position).toInt

/-- The end position of an item (R37). -/
def itemEnd (i : PreviewItem) : BitVec 24 := i.trigger + BitVec.ofNat 24 i.span

/-- A travel pulse: STANDSTILL cleared, the timer restarted, the step added, the advances fixed (R29, R33). -/
def takePulse (s : State) : State :=
  let sum := s.travel.accumulator + param s .travelStep
  { s with
    travel :=
      { s.travel with
        accumulator := sum % Config.advanceMicrometres
        advances := s.travel.advances + sum / Config.advanceMicrometres
        standstill := false
        standstillTimer := some (s.msCount + param s .standstillMs) } }

/-- TRAVEL_PULSE (R29). -/
def execTravelPulse (s : State) : Host.Outcome State Fault Refusal :=
  .next (unlessInReset s takePulse)

/-- Activation of an item at a position of P (R46). -/
def activated (position : BitVec 24) (i : PreviewItem) : PreviewItem :=
  { i with active := i.active || reached position i.trigger }

/-- A queue brought up to date with a position of P: activation, then retirement (R46). -/
def updatedQueue (position : BitVec 24) (q : List PreviewItem) : List PreviewItem :=
  (q.map (activated position)).filter fun i => !(i.active && reached position (itemEnd i))

/-- One fixed advance (R31); none is made when none is fixed. -/
def makeAdvance (s : State) : State :=
  if s.travel.advances = 0 then s
  else
    { s with
      travel :=
        { s.travel with position := s.travel.position + 1, advances := s.travel.advances - 1 }
      preview :=
        { s.preview with
          queues := s.preview.queues.mapWith fun _ q => updatedQueue (s.travel.position + 1) q } }

/-- ADVANCE (R31). -/
def execAdvance (s : State) : Host.Outcome State Fault Refusal :=
  .next (unlessInReset s makeAdvance)

/-- The standstill timer's expiry; it does not come while the timer is stopped or its boundary is ahead (R33). -/
def expireStandstill (s : State) : State :=
  if isDue s s.travel.standstillTimer then
    { s with travel := { s.travel with standstill := true, standstillTimer := none } }
  else s

/-- STANDSTILL_EXPIRY (R33). -/
def execStandstillExpiry (s : State) : Host.Outcome State Fault Refusal :=
  .next (unlessInReset s expireStandstill)

/-- A change of a port's staging record. -/
def modifyStaging (s : State) (p : Port) (f : Staging → Staging) : State :=
  modifyPort s p fun x => { x with staging := f x.staging }

/-- PREVIEW_LEVEL at the preview scheduler (R40). -/
def stageLevel (p : Port) (data : BitVec 12) (s : State) : Answer :=
  okWith (modifyStaging s p fun g =>
    { g with level := dataLevel data, attr := dataAttr data, copyFlag := dataCopy data, levelStaged := true })

/-- PREVIEW_LEVEL (R40). -/
def execPreviewLevel (h : Header) (data : BitVec 12) (s : State) : Host.Outcome State Fault Refusal :=
  .next (takeFrame h .preview (stageLevel h.port data) s)

/-- PREVIEW_SPAN at the preview scheduler (R41). -/
def stageSpan (p : Port) (data : BitVec 12) (s : State) : Answer :=
  if data = 0 then refuseWith s .badArg
  else okWith (modifyStaging s p fun g => { g with span := data.toNat, spanStaged := true })

/-- PREVIEW_SPAN (R41). -/
def execPreviewSpan (h : Header) (data : BitVec 12) (s : State) : Host.Outcome State Fault Refusal :=
  .next (takeFrame h .preview (stageSpan h.port data) s)

/-- An item placed after every item whose distance is not above its own (R38). -/
def insertItem (position : BitVec 24) (i : PreviewItem) : List PreviewItem → List PreviewItem
  | [] => [i]
  | x :: rest =>
    if distanceTo position x.trigger ≤ distanceTo position i.trigger then x :: insertItem position i rest
    else i :: x :: rest

/-- A queue is full (R36). -/
def isFull (q : List PreviewItem) : Bool := decide (Config.queueCapacity ≤ q.length)

/-- The item of a staged demand at a distance ahead of P, ACTIVE if its trigger is already reached (R43, R44). -/
def stagedItem (s : State) (g : Staging) (ahead : Nat) (origin : ItemOrigin) : PreviewItem :=
  let trigger := s.travel.position + BitVec.ofNat 24 ahead
  { trigger := trigger
    span := g.span
    level := g.level
    attr := g.attr
    origin := origin
    active := reached s.travel.position trigger
    arrival := s.preview.arrivals }

/-- The front wheel whose COPY a rear queue is to receive (R44): its partner is named, itself it is not, and the copy
flag is set. -/
def copySource (mask : BitVec 4) (g : Staging) (w : Wheel) : Option Wheel :=
  Wheel.all.find? fun f => g.copyFlag && namesWheel mask f && f.rearPartner == some w && !namesWheel mask w

/-- The item that a PREVIEW_AT at distance d has for a wheel's queue, if any (R43, R44). -/
def itemFor (s : State) (mask : BitVec 4) (g : Staging) (d : Nat) (w : Wheel) : Option PreviewItem :=
  if namesWheel mask w then some (stagedItem s g d .direct)
  else
    match copySource mask g w with
    | some f => if isFull (queueOf s w) then none else some (stagedItem s g (d + param s .wheelbase) (.copy f))
    | none => none

/-- A COPY of a PREVIEW_AT finds its rear queue full and is lost (R44). -/
def losesCopy (s : State) (mask : BitVec 4) (g : Staging) (w : Wheel) : Bool :=
  (copySource mask g w).isSome && isFull (queueOf s w)

/-- The insertions of a PREVIEW_AT that passes all checks (R43, R44). -/
def insertStaged (s : State) (mask : BitVec 4) (g : Staging) (d : Nat) : State :=
  { s with
    preview :=
      { queues := s.preview.queues.mapWith fun w q =>
          match itemFor s mask g d w with
          | some i => insertItem s.travel.position i q
          | none => q
        arrivals := s.preview.arrivals + 1 } }

/-- PREVIEW_AT at the preview scheduler: the checks of Table 2-4, then the insertions (R42-R45). -/
def placePreview (h : Header) (data : BitVec 12) (s : State) : Answer :=
  let g := (portOf s h.port).staging
  let fullWheels := maskOf fun w => namesWheel h.mask w && isFull (queueOf s w)
  if h.mask = 0 then refuseWith s .badArg
  else if !(g.levelStaged && g.spanStaged) then refuseWith s .notStaged
  else if fullWheels ≠ 0 then refuseWith s .full (fullWheels.setWidth 16)
  else
    let placed := insertStaged s h.mask g data.toNat
    okWith
      (if Wheel.all.any (losesCopy s h.mask g) then raiseAtRole placed .previewDropped .preview else placed)
      ((maskOf fun w => (itemFor s h.mask g data.toNat w).isSome).setWidth 16)

/-- PREVIEW_AT (R42). -/
def execPreviewAt (h : Header) (data : BitVec 12) (s : State) : Host.Outcome State Fault Refusal :=
  .next (takeFrame h .preview (placePreview h data) s)

/-- How many items the queues of the named wheels hold (R48). -/
def namedItems (s : State) (mask : BitVec 4) : Nat :=
  ((Wheel.all.filter (namesWheel mask)).map fun w => (queueOf s w).length).sum

/-- PREVIEW_CANCEL at the preview scheduler (R48). -/
def cancelPreview (h : Header) (s : State) : Answer :=
  if h.mask = 0 then refuseWith s .badArg
  else
    okWith
      { s with
        preview :=
          { s.preview with
            queues := s.preview.queues.mapWith fun w q => if namesWheel h.mask w then [] else q } }
      (word16 (namedItems s h.mask))

/-- PREVIEW_CANCEL (R48). -/
def execPreviewCancel (h : Header) (_data : BitVec 12) (s : State) : Host.Outcome State Fault Refusal :=
  .next (takeFrame h .preview (cancelPreview h) s)

/-- The later inserted of two items (R47). -/
def laterItem (best : Option PreviewItem) (i : PreviewItem) : Option PreviewItem :=
  match best with
  | some b => if b.arrival < i.arrival then some i else some b
  | none => some i

/-- The effective item of a queue: the ACTIVE item inserted last (R47). -/
def effectiveItem (q : List PreviewItem) : Option PreviewItem :=
  (q.filter (·.active)).foldl laterItem none

end Sys2Proof.Machine
end

