-- ==== Sys2Proof/Machine/Stroke.lean ====
section
/-! DEFINITION. Steps 1 to 3 of a cycle expiry (chapter 3): latching, the stroke sample and sensor status, position and velocity. -/

namespace Sys2Proof.Machine

/-- The live parameters that a wheel latches (R58, Table 3-3). -/
def latchedFrom (ps : Params) (w : Wheel) : Latched where
  trim := getParam ps (.trim w)
  imin := natParam ps (.imin w.axle)
  imax := natParam ps (.imax w.axle)
  slewUp := natParam ps (.slewUp w.axle)
  slewDown := natParam ps (.slewDown w.axle)
  kFilt := natParam ps .kFilt
  defLevel := natParam ps .defLevel
  band := natParam ps .band

/-- A stroke code is in range (R60). -/
def codeInRange (s : State) (c : Nat) : Bool :=
  decide (param s .senseLo ≤ c) && decide (c ≤ param s .senseHi)

/-- An out-of-range sample makes the status LOST: it raises the bad count to 3 while the status is OK (R62). -/
def losesSensor (k : Stroke) : Bool := k.status == .ok && k.bad + 1 == Config.lossSamples

/-- The counts and status after an out-of-range sample (R61, R62). -/
def outOfRangeSample (k : Stroke) : Stroke :=
  { k with
    good := 0
    bad := min (k.bad + 1) Config.lossSamples
    status := if losesSensor k then .lost else k.status }

/-- The counts and status after an in-range sample (R63): with the sensor LOST the sixteenth brings it back and unprimes
the wheel. -/
def inRangeSample (k : Stroke) (c : Nat) : Stroke :=
  match k.status with
  | .ok => { k with bad := 0, lastCode := c }
  | .lost =>
    if Config.recoverySamples ≤ k.good + 1 then
      { k with bad := 0, lastCode := c, status := .ok, good := 0, lastPosition := none }
    else { k with bad := 0, lastCode := c, good := k.good + 1 }

/-- Step 2: the sample judged (R60-R63). -/
def judgedSample (inRange : Bool) (k : Stroke) (c : Nat) : Stroke :=
  if inRange then inRangeSample k c else outOfRangeSample k

/-- The discard at an irregular interval, made while the status is OK (R71). -/
def discardIrregular (irregular : Bool) (k : Stroke) : Stroke :=
  if irregular && k.status == .ok then { k with lastPosition := none } else k

/-- Stroke position of a code, µm (R66). -/
def strokePosition (s : State) (w : Wheel) (c : Nat) : Int :=
  ((c : Int) - getParam s.params (.zero w)) * getParam s.params (.gain w)

/-- A velocity held to -4,000..+4,000 mm/s (R67). -/
def clampVelocity (v : Int) : Int :=
  if v < -Config.velocityLimit then -Config.velocityLimit
  else if Config.velocityLimit < v then Config.velocityLimit else v

/-- Raw velocity: 0 for an unprimed wheel, else the difference times 1,000 over the period, truncated toward zero and
clamped (R67). -/
def rawVelocity (last : Option Int) (position : Int) (periodLength : Nat) : Int :=
  match last with
  | none => 0
  | some l => clampVelocity (((position - l) * 1000).tdiv periodLength)

/-- The filter step, its quotient truncated toward zero (R68). -/
def filteredVelocity (v raw : Int) (kFilt : Nat) : Int := v + ((raw - v) * kFilt).tdiv 16

/-- Position and velocity of a sample that is in range with the status OK (R66-R68). -/
def velocityStage (k : Stroke) (position : Int) (periodLength kFilt : Nat) : Stroke :=
  { k with
    lastPosition := some position
    velocity := filteredVelocity k.velocity (rawVelocity k.lastPosition position periodLength) kFilt }

/-- Steps 2 and 3 of an expiry on the stroke fields (R60-R69, R71). -/
def strokeAfter (s : State) (w : Wheel) (c : Nat) (periodLength : Nat) (irregular : Bool) (kFilt : Nat) (k : Stroke) :
    Stroke :=
  let judged := judgedSample (codeInRange s c) k c
  let kept := discardIrregular irregular judged
  if codeInRange s c && judged.status == .ok then
    velocityStage kept (strokePosition s w c) periodLength kFilt
  else kept

/-- Velocity used of the cycle (R70). -/
def velocityUsed (k : Stroke) : Int :=
  match k.status with
  | .ok => k.velocity
  | .lost => 0

/-- The errors of step 2, STROKE_RANGE before STROKE_LOST (R61, R62). -/
def logSample (s : State) (w : Wheel) (c : Nat) (k : Stroke) : State :=
  if codeInRange s c then s
  else
    let ranged := logError s (.wheel w) .strokeRange (some c)
    if losesSensor k then logError ranged (.wheel w) .strokeLost none else ranged

end Sys2Proof.Machine
end

