-- ==== Sys2Proof/Machine/Arbitration.lean ====
section
/-! DEFINITION. Step 5 of a cycle expiry: arbitration (R20-R26). -/

namespace Sys2Proof.Machine

/-- A base: level, attribute and provisional winner (R21). -/
structure Base where
  level : Nat
  attr : Bool
  winner : Winner
  deriving DecidableEq, Repr

/-- The base from an effective item, else a RIDE record, else the default level (R21). -/
def chooseBase (item : Option PreviewItem) (ride : Option DemandRecord) (defLevel : Nat) : Base :=
  match item with
  | some i => ⟨i.level, i.attr, .preview⟩
  | none =>
    match ride with
    | some r => ⟨r.level, r.attr.getD false, .ride⟩
    | none => ⟨defLevel, false, .default⟩

/-- The stability floor over a base (R22, R23). -/
def applyFloor (b : Base) (floor : Option DemandRecord) : Base :=
  match floor with
  | some r => if b.level < r.level then { b with level := r.level, winner := .stability } else b
  | none => b

/-- The slot an attribute selects for a wheel (R24). -/
def selectedSlot (s : State) (w : Wheel) (attr : Bool) : Fin 8 :=
  Fin.ofNat 8 (param s (if attr then .mapselB w else .mapselA w))

/-- The base a wheel has at this expiry, with its floor applied (R21-R23). -/
def demandOutcome (s : State) (w : Wheel) (defLevel : Nat) : Base :=
  applyFloor (chooseBase (effectiveItem (queueOf s w)) (demandOf s w .ride) defLevel) (demandOf s w .stability)

/-- Arbitration of a wheel (R20-R26). -/
def arbitrate (s : State) (w : Wheel) (defLevel : Nat) : Arbitrated :=
  let b := demandOutcome s w defLevel
  let k := selectedSlot s w b.attr
  { winner := b.winner, level := b.level, attr := b.attr, slot := k, bank := bankBoundTo s k }

end Sys2Proof.Machine
end

