-- ==== Sys2Proof/Machine/Lookup.lean ====
section
/-! DEFINITION. Step 6 of a cycle expiry: the map lookup (R78-R84). -/

namespace Sys2Proof.Machine

/-- The memory a lookup reads: the bank used, else the slot used (R79). -/
def lookupMemory (s : State) (a : Arbitrated) : Memory :=
  match a.bank with
  | some b => (bankOf s b).entries
  | none => (slotOf s a.slot).entries

/-- The plane of a velocity used: compression for 0 and above, rebound below (R79). -/
def lookupPlane (v : Int) : Nat := if v < 0 then 1 else 0

/-- The breakpoint index of an axis value (R80, R81): the field of `len` bits from bit `lsb`, or saturated at 2^len. -/
def axisIndex (x lsb len : Nat) : Nat :=
  if x < 2 ^ (lsb + len) then x / 2 ^ lsb % 2 ^ len else 2 ^ len

/-- The remainder of an axis value (R80, R81). -/
def axisRemainder (x lsb len : Nat) : Nat :=
  if x < 2 ^ (lsb + len) then x % 2 ^ lsb else 0

/-- The weighted sum of two neighbours; a neighbour of weight 0 is not read (R82). -/
def blend (lower : Nat) (upper : Nat) (whole part : Nat) : Nat :=
  if part = 0 then lower * whole else lower * (whole - part) + upper * part

/-- Division by a power of two, rounded half up (R83). -/
def roundHalfUp (n bits : Nat) : Nat :=
  if bits = 0 then n else (n + 2 ^ (bits - 1)) / 2 ^ bits

/-- The map result of a plane of entries at row i, remainder a, column j, remainder b (R82, R83). -/
def interpolate (entry : Nat → Nat → Nat) (i a j b vlsb llsb : Nat) : Nat :=
  let top := blend (entry i j) (entry (i + 1) j) (2 ^ vlsb) a
  let bottom := blend (entry i (j + 1)) (entry (i + 1) (j + 1)) (2 ^ vlsb) a
  roundHalfUp (blend top bottom (2 ^ llsb) b) (vlsb + llsb)

/-- The lookup of a wheel (R79-R83). -/
def mapLookup (s : State) (a : Arbitrated) (v : Int) : Nat :=
  let m := lookupMemory s a
  let vlsb := param s .vlsb
  let vlen := param s .vlen
  let llsb := param s .llsb
  let llen := param s .llen
  interpolate (fun row column => Memory.read m (entryOffset (lookupPlane v) row column))
    (axisIndex v.natAbs vlsb vlen) (axisRemainder v.natAbs vlsb vlen)
    (axisIndex a.level llsb llen) (axisRemainder a.level llsb llen) vlsb llsb

end Sys2Proof.Machine
end

