-- ==== Sys2Proof/Machine/Shaping.lean ====
section
/-! DEFINITION. Step 7 of a cycle expiry: trim, slew and clamp (R85-R88). -/

namespace Sys2Proof.Machine

/-- The trim step (R85). -/
def trimmed (mapResult : Nat) (trim : Int) : Int := mapResult + trim

/-- The slew step against the previous target (R87). -/
def slewed (q : Int) (previous : Option Nat) (winner : Winner) (slewUp slewDown : Nat) : Int :=
  match previous with
  | none => q
  | some p =>
    if (p : Int) < q then
      if winner = .stability then q else min q (p + slewUp)
    else if q < p then max q (p - slewDown)
    else q

/-- The clamp step (R88). -/
def clamped (q : Int) (imin imax : Nat) : Nat :=
  if q < imin then imin else if (imax : Int) < q then imax else q.toNat

/-- The target current of a cycle (R85-R88). -/
def shapedTarget (mapResult : Nat) (previous : Option Nat) (winner : Winner) (l : Latched) : Nat :=
  clamped (slewed (trimmed mapResult l.trim) previous winner l.slewUp l.slewDown) l.imin l.imax

end Sys2Proof.Machine
end

