-- ==== Sys2Proof/Machine/Cycle.lean ====
section
/-! DEFINITION. The cycle timer, the whole work of a cycle expiry, and the short detector (R54-R57, R100-R112). -/

namespace Sys2Proof.Machine

/-- A period beginning now takes CYCLE_US and the four phases (R55). -/
def takenPeriod (s : State) : Period where
  length := param s .cycleUs
  phases := ⟨param s (.phase .fl), param s (.phase .fr), param s (.phase .rl), param s (.phase .rr)⟩

/-- The length of the period in progress, 0 before the first. -/
def periodLength (s : State) : Nat :=
  match s.timer.period with
  | some d => d.length
  | none => 0

/-- The next period begins (R54, R55); none does while the timer is stopped. -/
def beginPeriod (s : State) : State :=
  if s.timer.running then
    { s with
      timer :=
        { s.timer with
          counter := 0
          period := some (takenPeriod s)
          periodStart := s.timer.periodStart + periodLength s } }
  else s

/-- PERIOD_START (R55). -/
def execPeriodStart (s : State) : Host.Outcome State Fault Refusal :=
  .next (unlessInReset s beginPeriod)

/-- The wheel has had its expiry in the period in progress (R55). -/
def hadExpiry (s : State) (w : Wheel) : Bool :=
  match (wheelOf s w).lastExpiry with
  | some t => decide (s.timer.periodStart ≤ t)
  | none => false

/-- The taken phase of a wheel whose expiry can come in the period in progress: the timer runs, the phase is below the
taken length, and the wheel has not had its expiry in it (R54, R55). -/
def expiryPhase (s : State) (w : Wheel) : Option Nat :=
  match s.timer.period with
  | some d => if s.timer.running && decide (d.phases.get w < d.length) && !hadExpiry s w then some (d.phases.get w) else none
  | none => none

/-- The time since the wheel's previous expiry differs from the taken period length (R71). Where it equals that length by
coincidence although the taken CYCLE_US or PHASE_w changed or a period had no expiry, R71's first sentence gives no discard
and its "This happens" sentences give one: DESIGN CHOICE for the first (log 31). -/
def irregularInterval (s : State) (w : Wheel) (phase : Nat) : Bool :=
  match (wheelOf s w).lastExpiry with
  | some t => s.timer.periodStart + phase - t != periodLength s
  | none => false

/-- The wheel runs: ACTIVE or DEGRADED. -/
def isRunning (st : WheelState) : Bool := st == .active || st == .degraded

/-- Steps 1 to 3 on the wheel record, with the instant of the expiry (R57, R58). -/
def strokeSteps (s : State) (w : Wheel) (c phase : Nat) (r : WheelRecord) : WheelRecord :=
  let l := latchedFrom s.params w
  { r with
    latched := l
    stroke := strokeAfter s w c (periodLength s) (irregularInterval s w phase) l.kFilt r.stroke
    lastExpiry := some (s.timer.periodStart + phase) }

/-- The measured current deviates from the judged target by more than BAND (R110). -/
def deviates (measured target band : Nat) : Bool :=
  decide (band < measured - target ∨ band < target - measured)

/-- The regulation count after the check, before a logging returns it to 0 (R110). -/
def raisedRegulation (r : WheelRecord) : Nat :=
  if deviates r.measured r.target r.latched.band then r.regulationCount + 1 else 0

/-- The regulation check logs REGULATION (R110). -/
def logsRegulation (r : WheelRecord) : Bool := raisedRegulation r == Config.regulationCycles

/-- The open condition (R111). -/
def openCondition (r : WheelRecord) : Bool :=
  decide (Config.openTargetMin ≤ r.target ∧ 4 * r.measured < r.target)

/-- The open count after the check (R111). -/
def raisedOpen (r : WheelRecord) : Nat := if openCondition r then r.openCount + 1 else 0

/-- The open-coil check finds the coil open (R111). -/
def findsOpen (r : WheelRecord) : Bool := decide (Config.openCycles ≤ raisedOpen r)

/-- Both counts after the checks (R110, R111). -/
def countedChecks (r : WheelRecord) : WheelRecord :=
  { r with
    regulationCount := if logsRegulation r then 0 else raisedRegulation r
    openCount := raisedOpen r }

/-- The driver turned off, with the previous target absent (R86, R107). -/
def driverOff (r : WheelRecord) : WheelRecord :=
  { r with driver := ⟨false, 0⟩, previousTarget := none }

/-- A wheel entering FAILSAFE on a coil fault: driver off, latch set (R105, R111, R112). -/
def tripped (r : WheelRecord) : WheelRecord :=
  { driverOff r with state := .failsafe, latch := true }

/-- A wheel going OFF at a mode change (R104). -/
def turnedOff (r : WheelRecord) : WheelRecord := { driverOff r with state := .off }

/-- Every wheel OFF and every driver turned off (R104), the wheel causes ended with it (R114, R146). -/
def wheelsOff (s : State) : State :=
  settleMarks s { s with wheels := s.wheels.mapWith fun _ r => turnedOff r }

/-- The state settled at step 4 (Table 5-2). -/
def settledState (m : Mode) (r : WheelRecord) : WheelState :=
  if m ≠ .run ∧ m ≠ .calibrate then .off
  else if r.latch then .failsafe
  else
    match r.stroke.status with
    | .ok => .active
    | .lost => .degraded

/-- A wheel settled in a running state: entered from OFF or FAILSAFE, its counts become 0 (R101, R109). -/
def enterRunning (st : WheelState) (r : WheelRecord) : WheelRecord :=
  if isRunning r.state then { r with state := st } else { r with state := st, openCount := 0, regulationCount := 0 }

/-- Steps 5 to 7 of a running wheel: arbitration, lookup, shaping, and the target handed to the driver (R20, R84, R88,
R107). -/
def runSteps (s : State) (w : Wheel) (r : WheelRecord) : WheelRecord :=
  let a := arbitrate s w r.latched.defLevel
  let m := mapLookup s a (velocityUsed r.stroke)
  let target := shapedTarget m r.previousTarget a.winner r.latched
  { r with
    arbitrated := a
    mapResult := m
    target := target
    previousTarget := some target
    driver := ⟨true, target⟩ }

/-- Settling, and the rest of the cycle (R101). -/
def settleWheel (s : State) (w : Wheel) (r : WheelRecord) : WheelRecord :=
  let st := settledState s.mode r
  if isRunning st then runSteps s w (enterRunning st r) else { driverOff r with state := st }

/-- The error of the regulation check (R110). -/
def logRegulation (s : State) (w : Wheel) (r : WheelRecord) : State :=
  if logsRegulation r then logError s (.wheel w) .regulation none else s

/-- Step 4 onward for a wheel that was running at the start of the expiry: both checks, then settling unless the coil is
open (R101, R110, R111). -/
def checkedCycle (s : State) (w : Wheel) (r : WheelRecord) : State :=
  let logged := logRegulation s w r
  if findsOpen r then
    logError (modifyWheel logged w fun _ => tripped (countedChecks r)) (.wheel w) .coilOpen none
  else modifyWheel logged w fun _ => settleWheel s w (countedChecks r)

/-- Step 4 onward for a wheel that was OFF or FAILSAFE: no check is made (R101). -/
def uncheckedCycle (s : State) (w : Wheel) (r : WheelRecord) : State :=
  modifyWheel s w fun _ => settleWheel s w r

/-- The whole work of a cycle expiry at the wheel's taken phase (R57, Table 3-2). -/
def runExpiry (w : Wheel) (c measured phase : Nat) (s : State) : State :=
  let r := wheelOf s w
  let stroked := { strokeSteps s w c phase r with measured := measured }
  let sampled := logSample { s with timer := { s.timer with counter := phase } } w c r.stroke
  settleMarks s (if isRunning r.state then checkedCycle sampled w stroked else uncheckedCycle sampled w stroked)

/-- A cycle expiry; it does not come where the timer has none for the wheel (R54, R55). -/
def takeExpiry (w : Wheel) (c measured : Nat) (s : State) : State :=
  match expiryPhase s w with
  | some phase => runExpiry w c measured phase s
  | none => s

/-- CYCLE_EXPIRY (R57). -/
def execCycleExpiry (w : Wheel) (code : BitVec 12) (measured : Fin 2601) (s : State) :
    Host.Outcome State Fault Refusal :=
  .next (unlessInReset s (takeExpiry w code.toNat measured.val))

/-- A short: driver off, latch set, FAILSAFE, COIL_SHORT logged (R112); a driver that is OFF detects none. -/
def takeShort (w : Wheel) (s : State) : State :=
  if (wheelOf s w).driver.regulating then
    settleMarks s (logError (modifyWheel s w tripped) (.wheel w) .coilShort none)
  else s

/-- SHORT_DETECTED (R112). -/
def execShortDetected (w : Wheel) (s : State) : Host.Outcome State Fault Refusal :=
  .next (unlessInReset s (takeShort w))

end Sys2Proof.Machine
end

