-- ==== Sys2Proof/Machine/Notices.lean ====
section
/-! DEFINITION. NOTICE, NOTICE_MASK and CLEAR_BANK (R147, R149, R152). -/

namespace Sys2Proof.Machine

/-- NOTICE at the notice unit (R149). -/
def takeNotice (p : Port) (s : State) : Answer :=
  match waitingCause s p with
  | some c => okWith (acknowledge s p c) (word16 (causeNum c))
  | none => okWith s Config.noCause

/-- NOTICE (R149). -/
def execNotice (h : Header) (_data : BitVec 12) (s : State) : Host.Outcome State Fault Refusal :=
  .next (takeFrame h .notice (takeNotice h.port) s)

/-- NOTICE_MASK at the notice unit (R147). -/
def takeNoticeMask (p : Port) (data : BitVec 12) (s : State) : Answer :=
  if data.toNat ≤ 9 then okWith (modifyPort s p fun x => { x with noticeMask := data.toNat }) (data.setWidth 16)
  else refuseWith s .badArg

/-- NOTICE_MASK (R147). -/
def execNoticeMask (h : Header) (data : BitVec 12) (s : State) : Host.Outcome State Fault Refusal :=
  .next (takeFrame h .notice (takeNoticeMask h.port data) s)

/-- The FAILSAFE latch that goes with a bank, cleared (R105, R152). -/
def clearLatchOf (k : BankId) (s : State) : State :=
  match k with
  | .wheel w => modifyWheel s w fun r => { r with latch := false }
  | .link | .store => s

/-- CLEAR_BANK at the error banks (R152). -/
def clearBank (data : BitVec 12) (s : State) : Answer :=
  match bankIdOf data.toNat with
  | some k => okWith (clearLatchOf k (setErrorBank s k ErrorRecord.clear)) (word16 (errorCode (errorBank s k).code))
  | none => refuseWith s .badArg

/-- CLEAR_BANK (R152). -/
def execClearBank (h : Header) (data : BitVec 12) (s : State) : Host.Outcome State Fault Refusal :=
  .next (takeFrame h .clearBank (clearBank data) s)

end Sys2Proof.Machine
end

