-- ==== Sys2Proof/Machine/Space.lean ====
section
/-! DEFINITION. The parameter space: PUT at parameter and map indices, and GET (R90, R91, R137-R139, Tables 7-7 to 7-11). -/

namespace Sys2Proof.Machine

/-- In RUN and CALIBRATE, a stored value that would put IMIN above IMAX on its axle (R139). -/
def breaksAxle (ps : Params) (k : Param) (v : Int) : Bool :=
  match k with
  | .imin x => decide (getParam ps (.imax x) < v)
  | .imax x => decide (v < getParam ps (.imin x))
  | _ => false

/-- A stored ZERO_w or GAIN_w makes its wheel unprimed (R71). -/
def unprimeFor (k : Param) (s : State) : State :=
  match k with
  | .zero w | .gain w =>
    modifyWheel s w fun r => { r with stroke := { r.stroke with lastPosition := none } }
  | _ => s

/-- A value stored at a parameter. -/
def storeParam (k : Param) (v : Int) (s : State) : State :=
  unprimeFor k { s with params := putParam s.params k v }

/-- PUT at a parameter index (R139). -/
def putAtParam (k : Param) (data : BitVec 12) (s : State) : Answer :=
  let v := clampToRange k (putValue k data)
  if s.mode ≠ .config ∧ paramLive k = false then refuseWith s .notPermitted
  else if s.mode ≠ .config ∧ breaksAxle s.params k v = true then refuseWith s .badArg
  else
    ⟨storeParam k v s, if v = putValue k data then .ok else .clamped, BitVec.ofInt 16 v⟩

/-- A map PUT's value, held to 0..2,000 (R90). -/
def entryValue (data : BitVec 12) : Nat := min data.toNat Config.entryMax

/-- The answer of a map PUT that writes (R90). -/
def entryStatus (data : BitVec 12) : Status := if data.toNat ≤ Config.entryMax then .ok else .clamped

/-- A slot's entry written, the slot VALID afterwards (R90). -/
def writeSlotEntry (k : Fin 8) (offset v : Nat) (s : State) : State :=
  setSlot s k ⟨Memory.write (slotOf s k).entries offset v, true⟩

/-- A bank's entry written (R90). -/
def writeBankEntry (b : Fin 2) (offset v : Nat) (s : State) : State :=
  setBank s b { bankOf s b with entries := Memory.write (bankOf s b).entries offset v }

/-- PUT at a map index (R90, Table 4-8). -/
def putAtEntry (k : Fin 8) (offset : Nat) (data : BitVec 12) (s : State) : Answer :=
  match s.mode, bankBoundTo s k with
  | .config, _ => ⟨writeSlotEntry k offset (entryValue data) s, entryStatus data, word16 (entryValue data)⟩
  | .calibrate, some b => ⟨writeBankEntry b offset (entryValue data) s, entryStatus data, word16 (entryValue data)⟩
  | _, _ => refuseWith s .notPermitted

/-- An admitted PUT at the index the sending port's pointer holds (R90, R139). -/
def putAtPointer (p : Port) (data : BitVec 12) (s : State) : Answer :=
  match placeOf (portOf s p).pointer with
  | .param k => putAtParam k data s
  | .mapEntry k offset => putAtEntry k offset data s
  | _ => refuseWith s .notPermitted

/-- PUT (R139). -/
def execPut (h : Header) (data : BitVec 12) (s : State) : Host.Outcome State Fault Refusal :=
  .next (takeFrame h .put (putAtPointer h.port data) s)

/-- MAP_PUT, the same request frame (R90; log 17). -/
def execMapPut (h : Header) (data : BitVec 12) (s : State) : Host.Outcome State Fault Refusal :=
  .next (takeFrame h .put (putAtPointer h.port data) s)

/-- A GET of a map index (R91). -/
def entryRead (s : State) (k : Fin 8) (offset : Nat) : Nat :=
  match s.mode, bankBoundTo s k with
  | .calibrate, some b => Memory.read (bankOf s b).entries offset
  | _, _ => Memory.read (slotOf s k).entries offset

/-- The slot validity mask (R77). -/
def validityMask (s : State) : Nat :=
  ((List.finRange 8).map fun k => if (slotOf s k).valid then 2 ^ k.val else 0).sum

/-- A field of an error bank (Table 7-9). -/
def errorFieldValue (b : ErrorRecord) (field : Nat) : BitVec 16 :=
  match field with
  | 0 => flag16 b.valid
  | 1 => flag16 b.uncorrected
  | 2 => flag16 b.overflow
  | 3 => word16 (errorCode b.code)
  | 4 => flag16 b.infoValid
  | _ => word16 b.info

/-- A field of a demand record (R18). -/
def demandFieldValue (s : State) (r : DemandRecord) (field : Nat) : BitVec 16 :=
  match field with
  | 0 => 1
  | 1 => word16 r.level
  | 2 => flag16 (r.attr.getD false)
  | 3 => word16 r.origin.num
  | _ => word16 (remainingTime s r)

/-- The last position as 24 bits in two's complement, 0 while unprimed (R72). -/
def positionWord (k : Stroke) : BitVec 24 := BitVec.ofInt 24 (k.lastPosition.getD 0)

/-- A field of a wheel record (Table 7-11). -/
def wheelFieldValue (r : WheelRecord) (field : Nat) : BitVec 16 :=
  match field with
  | 0x00 => word16 (wheelStateCode r.state)
  | 0x01 => flag16 r.latch
  | 0x02 => word16 (sensorCode r.stroke.status)
  | 0x03 => word16 r.stroke.bad
  | 0x04 => word16 r.stroke.good
  | 0x05 => word16 r.stroke.lastCode
  | 0x06 => flag16 r.stroke.lastPosition.isSome
  | 0x07 => (positionWord r.stroke).extractLsb' 0 16
  | 0x08 => ((positionWord r.stroke).extractLsb' 16 8).setWidth 16
  | 0x09 => BitVec.ofInt 16 r.stroke.velocity
  | 0x0A => word16 (winnerCode r.arbitrated.winner)
  | 0x0B => word16 r.arbitrated.level
  | 0x0C => flag16 r.arbitrated.attr
  | 0x0D => word16 r.arbitrated.slot.val
  | 0x0E => word16 (bankUsedCode r.arbitrated.bank)
  | 0x0F => word16 r.mapResult
  | 0x10 => word16 r.target
  | 0x11 => word16 r.measured
  | 0x12 => word16 r.openCount
  | _ => word16 r.regulationCount

/-- The value at a place, none where it is unmapped (R138). -/
def readPlace (s : State) : Place → Option (BitVec 16)
  | .param k => some (BitVec.ofInt 16 (getParam s.params k))
  | .mode => some (word16 (modeCode s.mode))
  | .standstill => some (flag16 s.travel.standstill)
  | .positionLow => some (s.travel.position.extractLsb' 0 16)
  | .positionHigh => some ((s.travel.position.extractLsb' 16 8).setWidth 16)
  | .slotValidity => some (word16 (validityMask s))
  | .binding b => some (word16 (bindingCode (bankOf s b).binding))
  | .storeStatus => some (word16 (storeStatusCode s.store.status))
  | .heldCount w => some (word16 (queueOf s w).length)
  | .activeCount w => some (word16 ((queueOf s w).filter (·.active)).length)
  | .errorField bank field => (bankIdOf bank).map fun k => errorFieldValue (errorBank s k) field
  | .identity => some Config.partIdentity
  | .demandField w src field =>
    some (match demandOf s w src with
      | some r => demandFieldValue s r field
      | none => 0)
  | .wheelField w field => some (wheelFieldValue (wheelOf s w) field)
  | .mapEntry k offset => some (word16 (entryRead s k offset))
  | .overlayEntry b offset => some (word16 (Memory.read (bankOf s b).entries offset))
  | .unmapped => none

/-- GET at the index the sending port's pointer holds (R138). -/
def getAtPointer (p : Port) (s : State) : Answer :=
  match readPlace s (placeOf (portOf s p).pointer) with
  | some v => okWith s v
  | none => refuseWith s .badArg

/-- GET (R138). -/
def execGet (h : Header) (_data : BitVec 12) (s : State) : Host.Outcome State Fault Refusal :=
  .next (takeFrame h .get (getAtPointer h.port) s)

end Sys2Proof.Machine
end

