-- ==== Sys2Proof/Machine/Overlay.lean ====
section
/-! DEFINITION. The overlay commands (R94-R96). -/

namespace Sys2Proof.Machine

/-- An overlay bank by the number a command gives; only 0 and 1 name one (R94, R96). -/
def overlayBankOf (n : Nat) : Option (Fin 2) :=
  if n = 0 then some 0 else if n = 1 then some 1 else none

/-- The other overlay bank. -/
def otherBank (b : Fin 2) : Fin 2 := if b = 0 then 1 else 0

/-- Unbinding of a bank without commit (R95). -/
def unbindBank (b : Fin 2) (s : State) : State := setBank s b { bankOf s b with binding := none }

/-- Binding of a bank: it takes a copy of the slot's entries (R94). -/
def bindBank (b : Fin 2) (k : Fin 8) (s : State) : State := setBank s b ⟨(slotOf s k).entries, some k⟩

/-- An admitted OVERLAY_BIND, judged by the lines of Table 4-10 (R94, R95). -/
def takeBind (bank code : BitVec 4) (s : State) : Answer :=
  match overlayBankOf bank.toNat with
  | none => refuseWith s .badArg
  | some b =>
    if code = 15 then okWith (unbindBank b s)
    else if 8 ≤ code.toNat then refuseWith s .badArg
    else if (bankOf s (otherBank b)).binding = some (Fin.ofNat 8 code.toNat) then refuseWith s .badArg
    else okWith (bindBank b (Fin.ofNat 8 code.toNat) s)

/-- OVERLAY_BIND (R94). -/
def execOverlayBind (h : Header) (bank _spare code : BitVec 4) (s : State) : Host.Outcome State Fault Refusal :=
  .next (takeFrame h .overlay (takeBind bank code) s)

/-- OVERLAY_UNBIND: OVERLAY_BIND with slot code 15 (R95). -/
def execOverlayUnbind (h : Header) (bank _spare : BitVec 4) (s : State) : Host.Outcome State Fault Refusal :=
  .next (takeFrame h .overlay (takeBind bank 15) s)

/-- The commit of a bound bank into its slot (R96). -/
def commitBank (b : Fin 2) (k : Fin 8) (s : State) : State :=
  unbindBank b (setSlot s k ⟨(bankOf s b).entries, true⟩)

/-- An admitted OVERLAY_COMMIT (R96). -/
def takeCommit (data : BitVec 12) (s : State) : Answer :=
  match overlayBankOf data.toNat with
  | none => refuseWith s .badArg
  | some b =>
    match (bankOf s b).binding with
    | none => refuseWith s .badArg
    | some k => okWith (commitBank b k s) (word16 k.val)

/-- OVERLAY_COMMIT (R96). -/
def execOverlayCommit (h : Header) (data : BitVec 12) (s : State) : Host.Outcome State Fault Refusal :=
  .next (takeFrame h .overlay (takeCommit data) s)

end Sys2Proof.Machine
end

