-- ==== Sys2Proof/Machine/Store.lean ====
section
/-! DEFINITION. The map store: programming, abort, completion and the load (R153-R156). -/

namespace Sys2Proof.Machine

/-- Target number of a captured image (R153). -/
def targetOf : Capture → Nat
  | .slot k _ => k.val
  | .params _ => 8

/-- Another content of the image an operation writes. -/
def setImage (s : State) (c : Capture) (good : Bool) : State :=
  match c with
  | .slot k entries =>
    { s with
      store :=
        { s.store with
          slotImages := s.store.slotImages.set k (if good then .stored entries (crc16 (memoryWords entries)) else .invalid) } }
  | .params ps =>
    { s with store := { s.store with paramImage := if good then .stored ps (crc16 (paramWords ps)) else .invalid } }

/-- The operation in flight ends with a store status, and STORE_DONE is raised at its port (R155, R156). -/
def endOperation (s : State) (o : Operation) (status : StoreStatus) : State :=
  raiseAt { s with store := { s.store with operation := none, status := status } } .storeDone o.port

/-- An operation cut short: image invalid, PROGRAM_ABORTED logged, status ABORTED (R156). -/
def abortOperation (s : State) (o : Operation) : State :=
  endOperation (logError (setImage s o.capture false) .store .programAborted (some (targetOf o.capture))) o .aborted

/-- The abort of whatever operation is in flight, at entry to SHUTDOWN (R126, R156). -/
def abortInFlight (s : State) : State :=
  match s.store.operation with
  | some o => abortOperation s o
  | none => s

/-- What a STORE_PROGRAM of a target captures: the slot's own entries, or the parameter values; none for an INVALID
slot (R155). -/
def captureOf (s : State) (target : Nat) : Option Capture :=
  if target = 8 then some (.params s.params)
  else if (slotOf s (Fin.ofNat 8 target)).valid then
    some (.slot (Fin.ofNat 8 target) (slotOf s (Fin.ofNat 8 target)).entries)
  else none

/-- An admitted STORE_PROGRAM (R155). -/
def startProgram (p : Port) (data : BitVec 12) (s : State) : Answer :=
  if 8 < data.toNat then refuseWith s .badArg
  else if s.store.status = .busy then refuseWith s .busy
  else
    match captureOf s data.toNat with
    | none => refuseWith s .badArg
    | some c =>
      ⟨{ s with store := { s.store with operation := some ⟨p, c⟩, status := .busy } }, .accepted, data.setWidth 16⟩

/-- STORE_PROGRAM (R155). -/
def execStoreProgram (h : Header) (data : BitVec 12) (s : State) : Host.Outcome State Fault Refusal :=
  .next (takeFrame h .storeProgram (startProgram h.port data) s)

/-- An admitted STORE_ABORT (R156). -/
def abortProgram (s : State) : Answer :=
  match s.store.operation with
  | some o => okWith (abortOperation s o) (word16 (storeStatusCode .aborted))
  | none => okWith s (word16 (storeStatusCode s.store.status))

/-- STORE_ABORT (R156). -/
def execStoreAbort (h : Header) (_data : BitVec 12) (s : State) : Host.Outcome State Fault Refusal :=
  .next (takeFrame h .storeAbort abortProgram s)

/-- The completion of an operation with the outcome of its verify (R155). -/
def completeOperation (s : State) (o : Operation) (verifyGood : Bool) : State :=
  if verifyGood then endOperation (setImage s o.capture true) o .ok
  else
    endOperation (logError (setImage s o.capture false) .store .programVerify (some (targetOf o.capture))) o .failed

/-- The completion of the operation in flight; none comes where none is (R155, R156). -/
def completeInFlight (verifyGood : Bool) (s : State) : State :=
  match s.store.operation with
  | some o => completeOperation s o verifyGood
  | none => s

/-- STORE_COMPLETION (R155). -/
def execStoreCompletion (verifyGood : Bool) (s : State) : Host.Outcome State Fault Refusal :=
  .next (unlessInReset s (completeInFlight verifyGood))

/-- The entries of a good slot image (R153). -/
def goodSlotImage : Image Memory → Option Memory
  | .stored entries crc => if crc16 (memoryWords entries) = crc then some entries else none
  | .invalid => none

/-- The values of a good parameter block (R153). -/
def goodParamImage : Image Params → Option Params
  | .stored ps crc => if crc16 (paramWords ps) = crc then some ps else none
  | .invalid => none

/-- The load goes on to a step. -/
def loadNext (s : State) (step : Option LoadStep) : State := { s with store := { s.store with load := step } }

/-- Step 1 of the load (R154); it does not come unless it is the step due. -/
def loadParameters (s : State) : State :=
  if s.store.load = some .parameterBlock then
    match goodParamImage s.store.paramImage with
    | some ps => loadNext { s with params := ps } (some (.slot 0))
    | none => logError (loadNext s (some (.slot 0))) .store .paramBad none
  else s

/-- PARAMETER_BLOCK_LOAD (R154). -/
def execParameterBlockLoad (s : State) : Host.Outcome State Fault Refusal :=
  .next (unlessInReset s loadParameters)

/-- The step after a slot's load (R154). -/
def afterSlot (k : Fin 8) : LoadStep := if h : k.val + 1 < 8 then .slot ⟨k.val + 1, h⟩ else .completion

/-- The load of one slot (R154, R76); it does not come unless it is the step due. -/
def loadSlot (k : Fin 8) (s : State) : State :=
  if s.store.load = some (.slot k) then
    match goodSlotImage s.store.slotImages[k] with
    | some entries => loadNext (setSlot s k ⟨entries, true⟩) (some (afterSlot k))
    | none => logError (loadNext s (some (afterSlot k))) .store .slotBad (some k.val)
  else s

/-- SLOT_LOAD (R154). -/
def execSlotLoad (slot : Fin 8) (s : State) : Host.Outcome State Fault Refusal :=
  .next (unlessInReset s (loadSlot slot))

end Sys2Proof.Machine
end

