-- ==== Sys2Proof/Machine/Modes.lean ====
section
/-! DEFINITION. The mode controller: MODE requests, CAL_EN, SAFE, load completion (R118-R129). -/

namespace Sys2Proof.Machine

/-- The device mode changes, and MODE_CHANGED is raised at every port (R129). -/
def changeMode (s : State) (m : Mode) : State := raiseEverywhere { s with mode := m } .modeChanged

/-- An answer of the mode controller: its data is the code of the mode after the request (R120). -/
def modeAnswer (s : State) (status : Status) : Answer := ⟨s, status, word16 (modeCode s.mode)⟩

/-- The parameter names a VALID slot. -/
def namesValidSlot (s : State) (k : Param) : Bool := (slotOf s (Fin.ofNat 8 (param s k))).valid

/-- A consistency check of MODE RUN by its number (Table 6-3). -/
def consistent (s : State) (number : Nat) : Bool :=
  match number with
  | 1 => decide (param s .llsb + param s .llen ≤ 10)
  | 2 => decide (param s (.imin .front) ≤ param s (.imax .front) ∧ param s (.imin .rear) ≤ param s (.imax .rear))
  | 3 => Wheel.all.all fun w => decide (param s (.phase w) < param s .cycleUs)
  | 4 => decide (param s .senseLo < param s .senseHi)
  | 5 => Wheel.all.all fun w => namesValidSlot s (.mapselA w) && namesValidSlot s (.mapselB w)
  | _ => true

/-- The number of the first check that fails (R121). -/
def failedCheck (s : State) : Option Nat := [1, 2, 3, 4, 5].find? fun n => !consistent s n

/-- A request for RUN (R120-R122). -/
def requestRun (s : State) : Answer :=
  match s.mode with
  | .config =>
    match failedCheck s with
    | some n => ⟨s, .badArg, word16 n⟩
    | none => modeAnswer (changeMode s .run) .ok
  | .calibrate => modeAnswer (changeMode (unbindBanks s) .run) .ok
  | .run => modeAnswer s .ok
  | .loading | .shutdown => modeAnswer s .notPermitted

/-- The entry to CONFIG from RUN or CALIBRATE (R124). -/
def enterConfig (s : State) : State :=
  changeMode (wheelsOff (unbindBanks (emptyQueues (emptyDemands s)))) .config

/-- A request for CONFIG (R120, R124). -/
def requestConfig (s : State) : Answer :=
  match s.mode with
  | .config => modeAnswer s .ok
  | .run | .calibrate =>
    if s.travel.standstill then modeAnswer (enterConfig s) .ok else modeAnswer s .notPermitted
  | .loading | .shutdown => modeAnswer s .notPermitted

/-- A request for CALIBRATE (R120, R123). -/
def requestCalibrate (s : State) : Answer :=
  match s.mode with
  | .calibrate => modeAnswer s .ok
  | .run =>
    if s.calEn && s.travel.standstill then modeAnswer (changeMode s .calibrate) .ok else modeAnswer s .notPermitted
  | .config | .loading | .shutdown => modeAnswer s .notPermitted

/-- An admitted MODE request by its data (R120). -/
def requestMode (data : BitVec 12) (s : State) : Answer :=
  if data = 0 then requestConfig s
  else if data = 1 then requestRun s
  else if data = 2 then requestCalibrate s
  else modeAnswer s .badArg

/-- MODE_CONFIG (R124). -/
def execModeConfig (h : Header) (s : State) : Host.Outcome State Fault Refusal :=
  .next (takeFrame h .mode (requestMode 0) s)

/-- MODE_RUN (R121, R122). -/
def execModeRun (h : Header) (s : State) : Host.Outcome State Fault Refusal :=
  .next (takeFrame h .mode (requestMode 1) s)

/-- MODE_CALIBRATE (R123). -/
def execModeCalibrate (h : Header) (s : State) : Host.Outcome State Fault Refusal :=
  .next (takeFrame h .mode (requestMode 2) s)

/-- MODE_INVALID_REQUEST (R120). -/
def execModeInvalidRequest (h : Header) (data : BitVec 12) (s : State) : Host.Outcome State Fault Refusal :=
  .next (takeFrame h .mode (requestMode data) s)

/-- The mode controller at a fall of CAL_EN (R125). -/
def leaveCalibrate (s : State) : State :=
  if s.mode = .calibrate then changeMode (unbindBanks s) .run else s

/-- A fall of CAL_EN: the level, and outside a reset its effect (R125). -/
def fallCalEn (s : State) : State := unlessInReset { s with calEn := false } leaveCalibrate

/-- CAL_EN_FALL (R125). -/
def execCalEnFall (s : State) : Host.Outcome State Fault Refusal := .next (fallCalEn s)

/-- CAL_EN_RISE: the level alone (R125). -/
def execCalEnRise (s : State) : Host.Outcome State Fault Refusal := .next { s with calEn := true }

/-- The cycle timer stopped (R54). -/
def stopTimer (s : State) : State := { s with timer := { s.timer with running := false } }

/-- Every link timer stopped (R143). -/
def stopLinks (s : State) : State := modifyPorts s fun _ x => { x with linkTimer := none }

/-- The entry to SHUTDOWN (R126). -/
def enterShutdown (s : State) : State :=
  changeMode (abortInFlight (stopLinks (stopTimer (wheelsOff (unbindBanks (emptyQueues (emptyDemands s))))))) .shutdown

/-- The mode controller at an assertion of SAFE (R126). -/
def safeStop (s : State) : State := if s.mode = .shutdown then s else enterShutdown s

/-- An assertion of SAFE: the level, and outside a reset its effect (R126). -/
def assertSafe (s : State) : State := unlessInReset { s with safeLow := true } safeStop

/-- SAFE_ASSERTED (R126). -/
def execSafeAsserted (s : State) : Host.Outcome State Fault Refusal := .next (assertSafe s)

/-- SAFE_RELEASED: the level alone (R126). -/
def execSafeReleased (s : State) : Host.Outcome State Fault Refusal := .next { s with safeLow := false }

/-- The cycle timer started with a new period (R54, R55). -/
def startTimer (s : State) : State := { s with timer := ⟨true, 0, some (takenPeriod s), 0⟩ }

/-- The load ends (R154 step 3, R119): status OK, and CONFIG from LOADING. It does not come unless it is the step due. -/
def completeLoad (s : State) : State :=
  if s.store.load = some .completion then
    let done := { s with store := { s.store with load := none, status := .ok } }
    if s.mode = .loading then changeMode (startTimer done) .config else done
  else s

/-- LOAD_COMPLETION (R119). -/
def execLoadCompletion (s : State) : Host.Outcome State Fault Refusal :=
  .next (unlessInReset s completeLoad)

end Sys2Proof.Machine
end

