-- ==== Sys2Proof/Machine/Resets.lean ====
section
/-! DEFINITION. The two resets and their end (R116, R118, R135, R150, R154 and the reset columns of every chapter). -/

namespace Sys2Proof.Machine

/-- What a reset does to a transaction: one in progress is lost (R130). -/
def resetTransaction : Transaction → Transaction
  | .idle => .idle
  | .shifting _ | .lost => .lost

/-- The images through a reset: an operation in flight leaves its target invalid (R156). -/
def imagesAfterReset (s : State) : MapStore :=
  match s.store.operation with
  | some o => (setImage s o.capture false).store
  | none => s.store

/-- The start of a reset (R150 and the reset values of every chapter): all state as State.reset, but for the levels of
the lines, the transactions in progress, the nonvolatile images, the waiting commands, and the banks given. -/
def startReset (banks : ErrorBanks) (s : State) : State :=
  { State.reset with
    safeLow := s.safeLow
    calEn := s.calEn
    ports := s.ports.mapWith fun _ x => { PortState.reset with transaction := resetTransaction x.transaction }
    store :=
      { State.reset.store with
        slotImages := (imagesAfterReset s).slotImages
        paramImage := (imagesAfterReset s).paramImage }
    errors := banks
    pending := s.pending }

/-- POWER_ON_RESET: the error banks are cleared too (R150). -/
def execPowerOnReset (s : State) : Host.Outcome State Fault Refusal :=
  .next (startReset State.reset.errors s)

/-- RESET_LINE_RESET: the error banks are kept (R150). -/
def execResetLineReset (s : State) : Host.Outcome State Fault Refusal :=
  .next (startReset s.errors s)

/-- The roles of the three ports from their strap values, judged A, B, C: a role already held gives NONE (R135). -/
def assignedRoles (a b c : BitVec 2) : PerPort Role :=
  let ra := roleOfStrap a
  let rb := if roleOfStrap b = ra then .none else roleOfStrap b
  let rc := if roleOfStrap c = ra ∨ roleOfStrap c = rb then .none else roleOfStrap c
  ⟨ra, rb, rc⟩

/-- A port's strap named a role that it did not get (R135). -/
def roleConflict (strap : BitVec 2) (role : Role) : Bool := roleOfStrap strap != role

/-- The roles fixed (R135). -/
def fixRoles (roles : PerPort Role) (s : State) : State :=
  modifyPorts s fun p x => { x with role := roles.get p }

/-- A ROLE_CONFLICT logged for one port, where it has one (R135). -/
def logConflict (p : Port) (conflict : Bool) (s : State) : State :=
  if conflict then logError s .link .roleConflict (some p.num) else s

/-- The response slots formed when a reset ends: NO_REQUEST, tag 0, data 0000h, the alert bit as it stands (R130). -/
def formResponses (s : State) : State :=
  modifyPorts s fun p x => { x with response := ⟨.noRequest, 0, alertOf s p, 0⟩ }

/-- The load begins (R154). -/
def beginLoad (s : State) : State :=
  { s with store := { s.store with status := .busy, load := some .parameterBlock } }

/-- The roles fixed and the conflicts logged, B before C (R135). -/
def assignRoles (a b c : BitVec 2) (s : State) : State :=
  let roles := assignedRoles a b c
  logConflict .c (roleConflict c roles.c) (logConflict .b (roleConflict b roles.b) (fixRoles roles s))

/-- The end of a reset (R135, R130, R154, and R126 with SAFE asserted). -/
def finishReset (a b c : BitVec 2) (s : State) : State :=
  let begun := beginLoad (formResponses (assignRoles a b c { s with inReset := false }))
  if begun.safeLow then enterShutdown begun else begun

/-- RESET_END (R135); a reset ends only where one lasts. -/
def execResetEnd (strapA strapB strapC : BitVec 2) (s : State) : Host.Outcome State Fault Refusal :=
  .next (if s.inReset then finishReset strapA strapB strapC s else s)

end Sys2Proof.Machine
end

