-- ==== Sys2Proof/Machine/Dispatch.lean ====
section
/-! DEFINITION. Which meaning each command of the table has: one arm per constructor of Instr. -/

namespace Sys2Proof.Machine

def exec (i : Instr) (s : State) : Host.Outcome State Fault Refusal :=
  match i with
  | .nop h d => Sys2Proof.Machine.execNop h d s
  | .setLevel h d => Sys2Proof.Machine.execSetLevel h d s
  | .setFloor h d => Sys2Proof.Machine.execSetFloor h d s
  | .release h d => Sys2Proof.Machine.execRelease h d s
  | .previewLevel h d => Sys2Proof.Machine.execPreviewLevel h d s
  | .previewSpan h d => Sys2Proof.Machine.execPreviewSpan h d s
  | .previewAt h d => Sys2Proof.Machine.execPreviewAt h d s
  | .previewCancel h d => Sys2Proof.Machine.execPreviewCancel h d s
  | .select h d => Sys2Proof.Machine.execSelect h d s
  | .put h d => Sys2Proof.Machine.execPut h d s
  | .mapPut h d => Sys2Proof.Machine.execMapPut h d s
  | .get h d => Sys2Proof.Machine.execGet h d s
  | .modeConfig h => Sys2Proof.Machine.execModeConfig h s
  | .modeRun h => Sys2Proof.Machine.execModeRun h s
  | .modeCalibrate h => Sys2Proof.Machine.execModeCalibrate h s
  | .notice h d => Sys2Proof.Machine.execNotice h d s
  | .noticeMask h d => Sys2Proof.Machine.execNoticeMask h d s
  | .clearBank h d => Sys2Proof.Machine.execClearBank h d s
  | .storeProgram h d => Sys2Proof.Machine.execStoreProgram h d s
  | .storeAbort h d => Sys2Proof.Machine.execStoreAbort h d s
  | .overlayBind h bank spare code => Sys2Proof.Machine.execOverlayBind h bank spare code s
  | .overlayUnbind h bank spare => Sys2Proof.Machine.execOverlayUnbind h bank spare s
  | .overlayCommit h d => Sys2Proof.Machine.execOverlayCommit h d s
  | .unassignedCommand h code d => Sys2Proof.Machine.execUnassignedCommand h code d s
  | .framingError p bits => Sys2Proof.Machine.execFramingError p bits s
  | .safeAsserted => Sys2Proof.Machine.execSafeAsserted s
  | .safeReleased => Sys2Proof.Machine.execSafeReleased s
  | .calEnFall => Sys2Proof.Machine.execCalEnFall s
  | .calEnRise => Sys2Proof.Machine.execCalEnRise s
  | .travelPulse => Sys2Proof.Machine.execTravelPulse s
  | .advance => Sys2Proof.Machine.execAdvance s
  | .standstillExpiry => Sys2Proof.Machine.execStandstillExpiry s
  | .demandRecordExpiry w src => Sys2Proof.Machine.execDemandRecordExpiry w src s
  | .linkTimerExpiry p => Sys2Proof.Machine.execLinkTimerExpiry p s
  | .periodStart => Sys2Proof.Machine.execPeriodStart s
  | .cycleExpiry w code measured => Sys2Proof.Machine.execCycleExpiry w code measured s
  | .shortDetected w => Sys2Proof.Machine.execShortDetected w s
  | .storeCompletion good => Sys2Proof.Machine.execStoreCompletion good s
  | .parameterBlockLoad => Sys2Proof.Machine.execParameterBlockLoad s
  | .slotLoad k => Sys2Proof.Machine.execSlotLoad k s
  | .loadCompletion => Sys2Proof.Machine.execLoadCompletion s
  | .powerOnReset => Sys2Proof.Machine.execPowerOnReset s
  | .resetLineReset => Sys2Proof.Machine.execResetLineReset s
  | .resetEnd a b c => Sys2Proof.Machine.execResetEnd a b c s
  | .chipSelectFall p => Sys2Proof.Machine.execChipSelectFall p s
  | .millisecondBoundary => Sys2Proof.Machine.execMillisecondBoundary s
  | .modeInvalidRequest h d => Sys2Proof.Machine.execModeInvalidRequest h d s

end Sys2Proof.Machine
end

