-- ==== Sys2Proof/Safety.lean ====
section
/-! DEFINITION. What counts as lawful: the laws of the device that the manual names, as predicates of a state, and the
words in which statements speak of what a frame does. -/

namespace Sys2Proof.Machine

/-- The role whose port fills a source's positions (R1). -/
def sourceRole : Source → Role
  | .ride => .ride
  | .stability => .stability

/-- No two ports hold the same role other than NONE (R135). -/
def RolesDistinct (s : State) : Prop :=
  ∀ p q, (portOf s p).role = (portOf s q).role → (portOf s p).role ≠ .none → p = q

/-- Every record's origin holds its source's role, its level is a damping level, and RIDE records alone carry an
attribute (R1, R2); the table is empty while a reset lasts. -/
def DemandsLawful (s : State) : Prop :=
  (s.inReset = true → ∀ w src, demandOf s w src = none) ∧
    ∀ w src r, demandOf s w src = some r →
      (portOf s r.origin).role = sourceRole src ∧ r.level ≤ 1023 ∧ (r.attr.isSome = true ↔ src = .ride)

/-- A map memory in canonical form whose entries are currents of 0..2,000 mA (R75). -/
def MemoryLawful (m : Memory) : Prop := Memory.wf m = true ∧ Memory.inRange m = true

/-- Every map memory of the part is lawful: slots, overlay banks, slot images and a captured slot (R75, R93, R153). -/
def MapsLawful (s : State) : Prop :=
  (∀ k, MemoryLawful (slotOf s k).entries) ∧ (∀ b, MemoryLawful (bankOf s b).entries) ∧
    (∀ (k : Fin 8) m crc, s.store.slotImages[k] = .stored m crc → MemoryLawful m) ∧
    ∀ o k m, s.store.operation = some o → o.capture = .slot k m → MemoryLawful m

/-- Every parameter lies in its range of Table 7-8. -/
def ParamsInRange (ps : Params) : Prop := ∀ k, paramLo k ≤ getParam ps k ∧ getParam ps k ≤ paramHi k

/-- The parameter space, the parameter block's image and a captured block lie in range (R139, R153). -/
def ParamsLawful (s : State) : Prop :=
  ParamsInRange s.params ∧ (∀ ps crc, s.store.paramImage = .stored ps crc → ParamsInRange ps) ∧
    ∀ o ps, s.store.operation = some o → o.capture = .params ps → ParamsInRange ps

/-- The stroke fields lie in the ranges of Table 3-4, v_f within its law (R68), the bad count below 3 and the good count 0
while the status is OK. -/
def StrokeLawful (k : Stroke) : Prop :=
  -4000 ≤ k.velocity ∧ k.velocity ≤ 4000 ∧ k.bad ≤ 3 ∧ k.good ≤ 15 ∧ k.lastCode ≤ 4095 ∧
    (∀ x, k.lastPosition = some x → -1044225 ≤ x ∧ x ≤ 1044225) ∧
    (k.status = .ok → k.bad ≤ 2 ∧ k.good = 0)

/-- The stroke fields of every wheel are lawful. -/
def StrokesLawful (s : State) : Prop := ∀ w, StrokeLawful (wheelOf s w).stroke

/-- An item as it may be held at a travel position (R36-R38): its fields in range, its distance within what the queues
use, its end not reached, and ACTIVE exactly when its trigger is reached. -/
def ItemLawful (position : BitVec 24) (arrivals : Nat) (i : PreviewItem) : Prop :=
  1 ≤ i.span ∧ i.span ≤ 4095 ∧ i.level ≤ 1023 ∧ distanceTo position i.trigger ≤ 8095 ∧
    0 < distanceTo position i.trigger + i.span ∧
    (i.active = true ↔ distanceTo position i.trigger ≤ 0) ∧ i.arrival < arrivals

/-- One item may stand before another: nearer, or equally near and inserted earlier (R38). -/
def StandsBefore (position : BitVec 24) (i j : PreviewItem) : Prop :=
  distanceTo position i.trigger < distanceTo position j.trigger ∨
    (distanceTo position i.trigger = distanceTo position j.trigger ∧ i.arrival < j.arrival)

/-- The law of a preview queue (R36): at most 12 items, in order, none with a reached end. -/
def QueueLawful (position : BitVec 24) (arrivals : Nat) (q : List PreviewItem) : Prop :=
  q.length ≤ 12 ∧ q.Pairwise (StandsBefore position) ∧ ∀ i ∈ q, ItemLawful position arrivals i

/-- A staging record holds values that its commands can stage (R39-R41). -/
def StagingLawful (g : Staging) : Prop :=
  g.level ≤ 1023 ∧ g.span ≤ 4095 ∧ (g.spanStaged = true ↔ 1 ≤ g.span)

/-- The four queues and the three staging records are lawful. -/
def PreviewLawful (s : State) : Prop :=
  (∀ w, QueueLawful s.travel.position s.preview.arrivals (queueOf s w)) ∧
    ∀ p, StagingLawful (portOf s p).staging

/-- The modes in which the wheels may run. -/
abbrev WheelMode (m : Mode) : Prop := m = .run ∨ m = .calibrate

/-- The modes in which the cycle timer and the link timers run (Table 6-4). -/
abbrev OperatingMode (m : Mode) : Prop := m = .config ∨ m = .run ∨ m = .calibrate

/-- What each device mode means for the blocks (Tables 6-1 and 6-4, R13, R14, R51, R54, R93, R97, R104, R143, R154,
R156). -/
structure ModeLawful (s : State) : Prop where
  resetLoads : s.inReset = true → s.mode = .loading ∧ s.store.load = none
  timerRuns : s.timer.running = true ↔ OperatingMode s.mode
  timerTook : s.timer.running = true → s.timer.period ≠ none
  wheelsOff : ¬ WheelMode s.mode → ∀ w, (wheelOf s w).state = .off ∧ (wheelOf s w).driver.regulating = false
  queuesEmpty : ¬ WheelMode s.mode → ∀ w, queueOf s w = []
  demandsEmpty : ¬ OperatingMode s.mode → ∀ w src, demandOf s w src = none
  linksStopped : ¬ OperatingMode s.mode → ∀ p, (portOf s p).linkTimer = none
  unbound : s.mode ≠ .calibrate → ∀ b, (bankOf s b).binding = none
  boundOnce : ∀ k, ¬ ((bankOf s 0).binding = some k ∧ (bankOf s 1).binding = some k)
  loadEnded : OperatingMode s.mode → s.store.load = none
  programs : s.store.operation ≠ none → OperatingMode s.mode
  busy : s.store.status = .busy ↔ s.store.operation ≠ none ∨ s.store.load ≠ none

/-- The law on the coil current of one wheel (R107, R86): no current while OFF or FAILSAFE, else the target of the last
cycle, between the latched IMIN and IMAX. -/
def DriverLawful (r : WheelRecord) : Prop :=
  (¬ (r.state = .active ∨ r.state = .degraded) →
    r.driver = ⟨false, 0⟩ ∧ r.previousTarget = none) ∧
  (r.state = .active ∨ r.state = .degraded →
    r.driver = ⟨true, r.target⟩ ∧ r.previousTarget = some r.target ∧
      r.latched.imin ≤ r.target ∧ r.target ≤ r.latched.imax)

/-- IMIN does not exceed IMAX on either axle in the parameter space (R121, R139). -/
def AxlesOrdered (ps : Params) : Prop := ∀ x, natParam ps (.imin x) ≤ natParam ps (.imax x)

/-- The law on coil currents with what it rests on (R59, R107): the modes, and ordered axles while wheels may run. -/
def DriversLawful (s : State) : Prop :=
  ModeLawful s ∧ (WheelMode s.mode → AxlesOrdered s.params) ∧ ∀ w, DriverLawful (wheelOf s w)

/-- A port takes the transaction that ends at it: no reset lasts and none has met the transaction (R130; log 15). -/
abbrev Receives (s : State) (p : Port) : Prop := s.inReset = false ∧ (portOf s p).transaction ≠ .lost

/-- The link timer of a port after a good frame that left the part in state t (R141). -/
def LinkRestarted (s t : State) (p : Port) : Prop :=
  (OperatingMode t.mode →
    (portOf t p).linkTimer =
      if param t (.linkTimeout p) = 0 then none else some (t.msCount + param t (.linkTimeout p))) ∧
  (¬ OperatingMode t.mode → (portOf t p).linkTimer = (portOf s p).linkTimer)

/-- A request answered with a status and data: the response with its tag and the ALERT state at the end of the request,
the transaction over, the port LIVE, the link timer restarted (R131, R134, R141, R142). -/
def Answered (s t : State) (h : Header) (status : Status) (data : BitVec 16) : Prop :=
  (portOf t h.port).response = ⟨status, h.tag, alertOf t h.port, data⟩ ∧
    (portOf t h.port).transaction = .idle ∧ (portOf t h.port).link = .live ∧ LinkRestarted s t h.port

/-- The fields of the sending port that a frame leaves as they were, its index pointer being given. -/
structure PortPointed (s t : State) (p : Port) (pointer : BitVec 12) : Prop where
  role : (portOf t p).role = (portOf s p).role
  pointer : (portOf t p).pointer = pointer
  staging : (portOf t p).staging = (portOf s p).staging
  mask : (portOf t p).noticeMask = (portOf s p).noticeMask
  edges : (portOf t p).edges = (portOf s p).edges
  reported : (portOf t p).reported = (portOf s p).reported

/-- The fields of a port that no frame touches unless its command says so. -/
abbrev PortKept (s t : State) (p : Port) : Prop := PortPointed s t p (portOf s p).pointer

/-- The same fields after a PUT or a GET, which advance the pointer (R137). -/
abbrev PortAdvanced (s t : State) (p : Port) : Prop := PortPointed s t p ((portOf s p).pointer + 1)

/-- Every other port is as it was. -/
def OthersKept (s t : State) (p : Port) : Prop := ∀ q, q ≠ p → portOf t q = portOf s q

/-- A refused or empty request: nothing but the answer at its port. -/
def OnlyAnswered (s t : State) (h : Header) (status : Status) (data : BitVec 16) : Prop :=
  Answered s t h status data ∧ PortKept s t h.port ∧ OthersKept s t h.port ∧ t = { s with ports := t.ports }

/-- The same for PUT and GET, whose pointer advances. -/
def OnlyAdvanced (s t : State) (h : Header) (status : Status) (data : BitVec 16) : Prop :=
  Answered s t h status data ∧ PortAdvanced s t h.port ∧ OthersKept s t h.port ∧ t = { s with ports := t.ports }

/-- The fields of the sending port that a command keeps which raises one edge cause there. -/
structure PortRaised (s t : State) (p : Port) (e : EdgeCause) : Prop where
  role : (portOf t p).role = (portOf s p).role
  pointer : (portOf t p).pointer = (portOf s p).pointer
  staging : (portOf t p).staging = (portOf s p).staging
  mask : (portOf t p).noticeMask = (portOf s p).noticeMask
  edges : (portOf t p).edges = setEdge (portOf s p).edges e true

/-- A MODE request of the port was granted: OK with the code of the mode now entered, and MODE_CHANGED pending at every
port (R120, R129); the other ports are otherwise as they were but for their reported marks. -/
def Granted (s t : State) (h : Header) : Prop :=
  Answered s t h .ok (word16 (modeCode t.mode)) ∧ PortRaised s t h.port .modeChanged ∧
    ∀ q, q ≠ h.port →
      portOf t q = { portOf s q with edges := setEdge (portOf s q).edges .modeChanged true
                                     reported := (portOf t q).reported }

/-- A command that leaves everything as it was but for the answer at its port, stated as its completion. -/
def AnswersOnly (i : Instr) (s : State) (h : Header) (status : Status) (data : BitVec 16) : Prop :=
  ∃ t, exec i s = .next t ∧ OnlyAnswered s t h status data

/-- The same for PUT and GET, whose pointer advances. -/
def AnswersAndAdvances (i : Instr) (s : State) (h : Header) (status : Status) (data : BitVec 16) : Prop :=
  ∃ t, exec i s = .next t ∧ OnlyAdvanced s t h status data

/-- A GET that answers OK with a value. -/
def GetReads (s : State) (h : Header) (data : BitVec 12) (value : BitVec 16) : Prop :=
  AnswersAndAdvances (.get h data) s h .ok value

/-- The sending port may issue what its role alone admits: it receives, and holds the role (R136). -/
abbrev SentAs (s : State) (h : Header) (r : Role) : Prop := Receives s h.port ∧ (portOf s h.port).role = r

/-- The edge causes pending at a port are those that were, and those of a list. -/
def EdgesAdded (s t : State) (p : Port) (added : EdgeCause → Prop) : Prop :=
  ∀ e, edgeIn (portOf t p).edges e = true ↔ edgeIn (portOf s p).edges e = true ∨ added e

/-- A port that sends nothing: only its edge causes may have been added to. -/
def PortEdged (s t : State) (p : Port) (added : EdgeCause → Prop) : Prop :=
  portOf t p = { portOf s p with edges := (portOf t p).edges } ∧ EdgesAdded s t p added

/-- The sending port of a command that may add to its edge causes. -/
structure SenderEdged (s t : State) (p : Port) (added : EdgeCause → Prop) : Prop where
  role : (portOf t p).role = (portOf s p).role
  pointer : (portOf t p).pointer = (portOf s p).pointer
  staging : (portOf t p).staging = (portOf s p).staging
  mask : (portOf t p).noticeMask = (portOf s p).noticeMask
  reported : (portOf t p).reported = (portOf s p).reported
  edges : EdgesAdded s t p added

/-- BANK_LOGGED reaches the port that holds RIDE (R145, R151). -/
def LoggedAt (s : State) (p : Port) (e : EdgeCause) : Prop := e = .bankLogged ∧ (portOf s p).role = .ride

/-- One bank has taken errors in their order; every other bank is as it was. -/
def BankTook (s t : State) (k : BankId) (errors : List (ErrorCode × Option Nat)) : Prop :=
  ∀ j, errorBank t j = if j = k then errors.foldl (fun b e => takeError b e.1 e.2) (errorBank s k) else errorBank s j

/-- The image an operation writes, good or invalid; every other image is as it was (R153, R155, R156). -/
def OnlyTargetWritten (s t : State) (c : Capture) (good : Bool) : Prop :=
  match c with
  | .slot k entries =>
    t.store.paramImage = s.store.paramImage ∧
      ∀ j : Fin 8, t.store.slotImages[j] =
        if j = k then (if good then .stored entries (crc16 (memoryWords entries)) else .invalid)
        else s.store.slotImages[j]
  | .params ps =>
    t.store.slotImages = s.store.slotImages ∧
      t.store.paramImage = if good then .stored ps (crc16 (paramWords ps)) else .invalid

/-- Table 7-6, row by row: a command, the roles that admit it, the modes that admit it. -/
def acceptanceTable : List (Command × List Role × List Mode) :=
  let everyRole := [.none, .ride, .stability, .preview]
  let everyMode := [.loading, .config, .run, .calibrate, .shutdown]
  let operating := [.config, .run, .calibrate]
  [(.nop, everyRole, everyMode),
   (.setLevel, [.ride], operating),
   (.setFloor, [.stability], operating),
   (.release, [.ride, .stability], operating),
   (.preview, [.preview], [.run, .calibrate]),
   (.select, everyRole, everyMode),
   (.get, everyRole, everyMode),
   (.put, [.ride], operating),
   (.mode, [.ride], operating),
   (.notice, [.ride, .stability, .preview], everyMode),
   (.clearBank, [.ride], [.config, .run, .calibrate, .shutdown]),
   (.storeProgram, [.ride], [.config, .calibrate]),
   (.storeAbort, [.ride], operating),
   (.overlay, [.ride], [.calibrate])]

/-- Table 7-6 admits the command from the role in the mode. -/
abbrev TableAdmits (c : Command) (r : Role) (m : Mode) : Prop :=
  ∃ row ∈ acceptanceTable, row.1 = c ∧ r ∈ row.2.1 ∧ m ∈ row.2.2

/-- The header and the acceptance row of a command that a good frame carries (Tables 7-5 and 7-6). -/
def frameOf : Instr → Option (Header × Command)
  | .nop h _ => some (h, .nop)
  | .setLevel h _ => some (h, .setLevel)
  | .setFloor h _ => some (h, .setFloor)
  | .release h _ => some (h, .release)
  | .previewLevel h _ | .previewSpan h _ | .previewAt h _ | .previewCancel h _ => some (h, .preview)
  | .select h _ => some (h, .select)
  | .put h _ | .mapPut h _ => some (h, .put)
  | .get h _ => some (h, .get)
  | .modeConfig h | .modeRun h | .modeCalibrate h | .modeInvalidRequest h _ => some (h, .mode)
  | .notice h _ | .noticeMask h _ => some (h, .notice)
  | .clearBank h _ => some (h, .clearBank)
  | .storeProgram h _ => some (h, .storeProgram)
  | .storeAbort h _ => some (h, .storeAbort)
  | .overlayBind h _ _ _ | .overlayUnbind h _ _ | .overlayCommit h _ => some (h, .overlay)
  | .unassignedCommand h _ _ => some (h, .unassigned)
  | .framingError .. | .safeAsserted | .safeReleased | .calEnFall | .calEnRise | .travelPulse | .advance
  | .standstillExpiry | .demandRecordExpiry .. | .linkTimerExpiry _ | .periodStart | .cycleExpiry ..
  | .shortDetected _ | .storeCompletion _ | .parameterBlockLoad | .slotLoad _ | .loadCompletion | .powerOnReset
  | .resetLineReset | .resetEnd .. | .chipSelectFall _ | .millisecondBoundary => none

/-- The consistency checks of MODE RUN by number (Table 6-3). -/
def CheckPasses (s : State) : Nat → Prop
  | 1 => param s .llsb + param s .llen ≤ 10
  | 2 => param s (.imin .front) ≤ param s (.imax .front) ∧ param s (.imin .rear) ≤ param s (.imax .rear)
  | 3 => ∀ w, param s (.phase w) < param s .cycleUs
  | 4 => param s .senseLo < param s .senseHi
  | 5 => ∀ w, (slotOf s (Fin.ofNat 8 (param s (.mapselA w)))).valid = true ∧
      (slotOf s (Fin.ofNat 8 (param s (.mapselB w)))).valid = true
  | _ => True

/-- A cause that NOTICE can return at a port: pending there, and no level cause with its reported mark set (R149). -/
def Waiting (s : State) (p : Port) (c : Cause) : Prop :=
  isPending s p c = true ∧ ∀ l, c = .level l → markIn (portOf s p).reported l = false

/-- Indices of the parameter space that Tables 7-7 and 7-9 leave unmapped. -/
abbrev UnmappedIndex (x : Nat) : Prop :=
  (0x32 ≤ x ∧ x < 0x100) ∨ (0xB90 ≤ x ∧ x < 0xC00) ∨ 0xE64 ≤ x ∨
    (0x110 ≤ x ∧ x < 0x140 ∧ x ≠ 0x13F ∧ 6 ≤ (x - 0x110) % 8) ∨
    (0x140 ≤ x ∧ x < 0x180 ∧ 5 ≤ (x - 0x140) % 8) ∨
    (0x180 ≤ x ∧ x < 0x200 ∧ 0x14 ≤ (x - 0x180) % 32)

/-- The readable fields of a wheel record by offset (Table 7-11). -/
def wheelFields (r : WheelRecord) : List (BitVec 16) :=
  let x : BitVec 24 := BitVec.ofInt 24 (r.stroke.lastPosition.getD 0)
  [word16 (wheelStateCode r.state), flag16 r.latch, word16 (sensorCode r.stroke.status), word16 r.stroke.bad,
   word16 r.stroke.good, word16 r.stroke.lastCode, flag16 r.stroke.lastPosition.isSome,
   x.extractLsb' 0 16, (x.extractLsb' 16 8).setWidth 16, BitVec.ofInt 16 r.stroke.velocity,
   word16 (winnerCode r.arbitrated.winner), word16 r.arbitrated.level, flag16 r.arbitrated.attr,
   word16 r.arbitrated.slot.val, word16 (bankUsedCode r.arbitrated.bank), word16 r.mapResult, word16 r.target,
   word16 r.measured, word16 r.openCount, word16 r.regulationCount]

/-- The readable fields of a demand position by field number: all 0 where it is empty (R18). -/
def demandFields (s : State) : Option DemandRecord → List (BitVec 16)
  | none => [0, 0, 0, 0, 0]
  | some r =>
    [1, word16 r.level, flag16 (r.attr.getD false), word16 r.origin.num, word16 (remainingTime s r)]

/-- The readable fields of an error bank by field number (Table 7-9). -/
def bankFields (b : ErrorRecord) : List (BitVec 16) :=
  [flag16 b.valid, flag16 b.uncorrected, flag16 b.overflow, word16 (errorCode b.code), flag16 b.infoValid, word16 b.info]

/-- Number of an error bank (Table 8-3). -/
def bankNum : BankId → Nat
  | .wheel w => w.num
  | .link => 4
  | .store => 5

/-- A queue with an item placed after every item at its head that is no farther than the item (R38). -/
def placed (position : BitVec 24) (i : PreviewItem) (q : List PreviewItem) : List PreviewItem :=
  let near := fun x : PreviewItem => decide (distanceTo position x.trigger ≤ distanceTo position i.trigger)
  q.takeWhile near ++ i :: q.dropWhile near

/-- A wheel that drives its coil. -/
abbrev Running (r : WheelRecord) : Prop := r.state = .active ∨ r.state = .degraded

/-- The instant of a wheel's cycle expiry has come: the timer runs, the taken phase lies below the taken length, and the
wheel has had none in this period (R54, R55). -/
structure ExpiryComes (s : State) (w : Wheel) (d : Period) : Prop where
  outside : s.inReset = false
  runs : s.timer.running = true
  taken : s.timer.period = some d
  phase : d.phases.get w < d.length
  once : ∀ n, (wheelOf s w).lastExpiry = some n → n < s.timer.periodStart

/-- The time since the wheel's previous expiry differs from the taken period length (R71; an interval that equals it by
coincidence is regular: log 31). -/
def Irregular (s : State) (w : Wheel) (d : Period) : Prop :=
  ∃ n, (wheelOf s w).lastExpiry = some n ∧ s.timer.periodStart + d.phases.get w ≠ n + d.length

/-- A code is out of range (R60). -/
abbrev OutOfRange (s : State) (c : Nat) : Prop := c < param s .senseLo ∨ param s .senseHi < c

/-- The measured current lies more than BAND from the judged target (R110). -/
abbrev Deviating (s : State) (w : Wheel) (measured : Nat) : Prop :=
  (wheelOf s w).target + param s .band < measured ∨ measured + param s .band < (wheelOf s w).target

/-- The open condition on the judged target (R111). -/
abbrev OpenCycle (s : State) (w : Wheel) (measured : Nat) : Prop :=
  200 ≤ (wheelOf s w).target ∧ 4 * measured < (wheelOf s w).target

/-- The coil of a running wheel is found open: the third open cycle on end (R111). -/
abbrev CoilFoundOpen (s : State) (w : Wheel) (measured : Nat) : Prop :=
  Running (wheelOf s w) ∧ OpenCycle s w measured ∧ 2 ≤ (wheelOf s w).openCount

/-- The errors a cycle expiry logs in its wheel's bank, in their order (R61, R62, R110, R111). -/
def expiryErrors (s : State) (w : Wheel) (c measured : Nat) : List (ErrorCode × Option Nat) :=
  let r := wheelOf s w
  (if OutOfRange s c then [(.strokeRange, some c)] else []) ++
    (if OutOfRange s c ∧ r.stroke.status = .ok ∧ r.stroke.bad = 2 then [(.strokeLost, none)] else []) ++
    (if Running r ∧ Deviating s w measured ∧ r.regulationCount = 7 then [(.regulation, none)] else []) ++
    (if CoilFoundOpen s w measured then [(.coilOpen, none)] else [])

/-- The checks of Table 6-3 stand while wheels may run (R24, R78, R122). -/
def ChecksStand (s : State) : Prop := WheelMode s.mode → ∀ n, CheckPasses s n

/-- The diagnostic counts and the measured current of a wheel lie in the ranges of Table 5-4; a wheel that runs has not
come to the third open cycle (R109, R111). -/
def CountsInRange (r : WheelRecord) : Prop :=
  r.openCount ≤ 3 ∧ (Running r → r.openCount ≤ 2) ∧ r.regulationCount ≤ 7 ∧ r.measured ≤ 2600

/-- The accumulator lies in 0..999 (R31, Table 2-1), and every wheel's counts in their ranges. -/
def CountsLawful (s : State) : Prop := s.travel.accumulator ≤ 999 ∧ ∀ w, CountsInRange (wheelOf s w)

/-- The wheel state that a level cause speaks of (Table 8-1). -/
def causeState : LevelCause → Option WheelState
  | .shutdown => none
  | .wheelFailsafe => some .failsafe
  | .wheelDegraded => some .degraded

/-- A wheel enters the state of a level cause (R146). -/
def EntersCause (s t : State) (l : LevelCause) (w : Wheel) : Prop :=
  causeState l = some (wheelOf t w).state ∧ (wheelOf s w).state ≠ (wheelOf t w).state

/-- A reported mark stands only while its level cause is pending (R144, R146). -/
def MarksLawful (s : State) : Prop :=
  ∀ p l, markIn (portOf s p).reported l = true → levelHolds s l = true

end Sys2Proof.Machine
end

