-- ==== Sys2Proof/Certificates/Slice0/Obligations.lean ====
section
/-! DEFINITION. The statements for the provers, from the numbered rules of spec/. -/

section Statements

open Sys2Proof Sys2Proof.Machine

/-- The host's step runs the front command of the queue on the state with the queue's rest; an empty queue idles. Both are
the model's choice (log 1). -/
def Obligations.StepTakesTheFrontCommand : Prop :=
  (∀ (c : Instr) (rest : List Instr) (s : State), s.pending = c :: rest → step s = exec c { s with pending := rest }) ∧
    ∀ s : State, s.pending = [] → step s = .next s

/-- The model's choice (logs 1, 5, 6, 26, 29): every command of the table has a next state in every state, those included
in which the spec has no such event, and no command touches the queue of waiting commands. -/
def Obligations.EveryCommandCompletes : Prop :=
  ∀ (i : Instr) (s : State), ∃ t, exec i s = .next t ∧ t.pending = s.pending

/-- R134, R136: a NOP is answered OK with data 0000h, and a code of 13h to 1Fh NOT_PERMITTED with data 0000h; neither
does anything else but the answer, the link and its timer. -/
def Obligations.NopAndUnassignedCodesOnlyAnswer : Prop :=
  ∀ (h : Header) (d : BitVec 12) (s : State), Receives s h.port →
    AnswersOnly (.nop h d) s h .ok 0 ∧
      ∀ code : BitVec 5, 0x13 ≤ code.toNat → AnswersOnly (.unassignedCommand h code d) s h .notPermitted 0

/-- R136: a frame that Table 7-6 does not admit is answered NOT_PERMITTED with data 0000h, and nothing but its port acts on
it; a refused PUT or GET still advances the index pointer. -/
def Obligations.UnadmittedFramesAreRefused : Prop :=
  (∀ (c : Command) (r : Role) (m : Mode), (roleAdmits c r && modeAdmits c m) = true ↔ TableAdmits c r m) ∧
    ∀ (i : Instr) (h : Header) (c : Command) (s : State), frameOf i = some (h, c) → Receives s h.port →
      ¬ TableAdmits c (portOf s h.port).role s.mode →
        if c = .put ∨ c = .get then AnswersAndAdvances i s h .notPermitted 0 else AnswersOnly i s h .notPermitted 0

/-- R130 with log 15: a transaction that a reset met, or that ends while a reset lasts, is not taken; it only ends. -/
def Obligations.UntakenTransactionsOnlyEnd : Prop :=
  ∀ (i : Instr) (p : Port) (s : State), ((∃ h c, frameOf i = some (h, c) ∧ h.port = p) ∨ ∃ bits, i = .framingError p bits) →
    ¬ Receives s p →
      ∃ t, exec i s = .next t ∧ portOf t p = { portOf s p with transaction := .idle } ∧ OthersKept s t p ∧
        t = { s with ports := t.ports }

/-- R130, R131: when chip select falls, the port takes the frame of its response slot, laid out as Table 7-3 says with a
correct CRC, and shifts it out bit 31 first, with 0 after the 32nd bit. While a reset lasts the transaction is lost.
That, and that a fall while chip select is already low begins a transaction anew, is the model's choice (log 15). -/
def Obligations.ChipSelectFallTakesTheResponse : Prop :=
  ∀ (p : Port) (s : State), ∃ t, exec (.chipSelectFall p) s = .next t ∧ OthersKept s t p ∧ t = { s with ports := t.ports } ∧
    (s.inReset = true → portOf t p = { portOf s p with transaction := .lost }) ∧
    (s.inReset = false → ∃ f : BitVec 32, portOf t p = { portOf s p with transaction := .shifting f } ∧
      f.extractLsb' 28 4 = statusCode (portOf s p).response.status ∧ f.extractLsb' 25 3 = (portOf s p).response.tag ∧
      f.getLsbD 24 = (portOf s p).response.alert ∧ f.extractLsb' 8 16 = (portOf s p).response.data ∧
      crcMatches f = true ∧
      (∀ k, k < 32 → sdoBit t p k = some (f.getLsbD (31 - k))) ∧ ∀ k, 32 ≤ k → sdoBit t p k = some false)

/-- R4: SET_LEVEL. -/
def Obligations.SetLevelSetsTheNamedRideRecords : Prop :=
  ∀ (h : Header) (level : BitVec 10) (attr spare : Bool) (s : State), Receives s h.port →
    let i := Instr.setLevel h (level ++ BitVec.ofBool attr ++ BitVec.ofBool spare)
    (¬ ((portOf s h.port).role = .ride ∧ OperatingMode s.mode) → AnswersOnly i s h .notPermitted 0) ∧
    ((portOf s h.port).role = .ride → OperatingMode s.mode → h.mask = 0 → AnswersOnly i s h .badArg 0) ∧
    ((portOf s h.port).role = .ride → OperatingMode s.mode → h.mask ≠ 0 →
      ∃ t, exec i s = .next t ∧ Answered s t h .ok 0 ∧ PortKept s t h.port ∧ OthersKept s t h.port ∧
        (∀ w, demandOf t w .ride =
          if h.mask.getLsbD w.num then
            some ⟨h.port, level.toNat, some attr, s.msCount + 10 * natParam s.params .holdRide⟩
          else demandOf s w .ride) ∧
        (∀ w, demandOf t w .stability = demandOf s w .stability) ∧
        t = { s with ports := t.ports, demands := t.demands })

/-- R5: SET_FLOOR, with its last paragraph on a floor of level 0. -/
def Obligations.SetFloorSetsTheNamedStabilityRecords : Prop :=
  (∀ (h : Header) (level : BitVec 10) (spare : BitVec 2) (s : State), Receives s h.port →
    let i := Instr.setFloor h (level ++ spare)
    (¬ ((portOf s h.port).role = .stability ∧ OperatingMode s.mode) → AnswersOnly i s h .notPermitted 0) ∧
    ((portOf s h.port).role = .stability → OperatingMode s.mode → h.mask = 0 → AnswersOnly i s h .badArg 0) ∧
    ((portOf s h.port).role = .stability → OperatingMode s.mode → h.mask ≠ 0 →
      ∃ t, exec i s = .next t ∧ Answered s t h .ok 0 ∧ PortKept s t h.port ∧ OthersKept s t h.port ∧
        (∀ w, demandOf t w .stability =
          if h.mask.getLsbD w.num then
            some ⟨h.port, level.toNat, none, s.msCount + 10 * natParam s.params .holdStab⟩
          else demandOf s w .stability) ∧
        (∀ w, demandOf t w .ride = demandOf s w .ride) ∧
        t = { s with ports := t.ports, demands := t.demands })) ∧
    ∀ (b : Base) (r : DemandRecord), r.level = 0 → applyFloor b (some r) = b

/-- R7: RELEASE acts on the source of the sending port's role; the expiry of a released record does not come. -/
def Obligations.ReleaseRemovesTheNamedRecords : Prop :=
  ∀ (h : Header) (d : BitVec 12) (s : State), Receives s h.port →
    (¬ (((portOf s h.port).role = .ride ∨ (portOf s h.port).role = .stability) ∧ OperatingMode s.mode) →
      AnswersOnly (.release h d) s h .notPermitted 0) ∧
    ∀ src : Source, (portOf s h.port).role = sourceRole src → OperatingMode s.mode →
      (h.mask = 0 → AnswersOnly (.release h d) s h .badArg 0) ∧
      (h.mask ≠ 0 →
        ∃ t, exec (.release h d) s = .next t ∧ Answered s t h .ok 0 ∧ PortKept s t h.port ∧ OthersKept s t h.port ∧
          (∀ w k, demandOf t w k = if h.mask.getLsbD w.num ∧ k = src then none else demandOf s w k) ∧
          t = { s with ports := t.ports, demands := t.demands } ∧
          ∀ w, h.mask.getLsbD w.num = true → exec (.demandRecordExpiry w src) t = .next t)

/-- R3, R8, R18, R19: just after a SET_LEVEL or a SET_FLOOR the remaining time of a named wheel's record is the hold in
milliseconds, and a GET reads it so; a boundary of the time base lowers the remaining time of a record that still lives by
one; at its expiry boundary a record is removed, and DEMAND_LAPSED becomes pending at its origin port, whatever the mode and
the wheel's state. That no boundary forces an expiry is the model's choice (log 7). -/
def Obligations.DemandRecordsExpireAtTheirBoundary : Prop :=
  (∀ (src : Source) (h : Header) (data : BitVec 12) (w : Wheel) (s : State), SentAs s h (sourceRole src) →
    OperatingMode s.mode → h.mask.getLsbD w.num = true →
    let i := if src = .ride then Instr.setLevel h data else Instr.setFloor h data
    let hold := 10 * param s (if src = .ride then .holdRide else .holdStab)
    0 < hold →
    ∃ t r, exec i s = .next t ∧ demandOf t w src = some r ∧ r.expiry = t.msCount + hold ∧ remainingTime t r = hold ∧
      ∀ (h' : Header) (d : BitVec 12), Receives t h'.port →
        (portOf t h'.port).pointer.toNat = 0x140 + w.num * 0x10 + (if src = .ride then 0 else 8) + 4 →
        GetReads t h' d (word16 hold)) ∧
  (∀ s : State, s.inReset = false →
    ∃ t, exec .millisecondBoundary s = .next t ∧ t = { s with msCount := s.msCount + 1 } ∧
      ∀ r : DemandRecord, s.msCount + 1 < r.expiry → remainingTime t r + 1 = remainingTime s r) ∧
    ∀ (w : Wheel) (src : Source) (r : DemandRecord) (s : State), s.inReset = false → demandOf s w src = some r →
      r.expiry ≤ s.msCount →
      ∃ t, exec (.demandRecordExpiry w src) s = .next t ∧
        (∀ u k, demandOf t u k = if u = w ∧ k = src then none else demandOf s u k) ∧
        PortEdged s t r.origin (fun e => e = .demandLapsed) ∧ OthersKept s t r.origin ∧
        t = { s with ports := t.ports, demands := t.demands }

/-- Events that are not due change nothing; nor, while a reset lasts, does any event but the resets, their end, the lines,
and the start and end of a transaction, which change the port's transaction alone (stated with the chip selects and with
untaken transactions). The model's choice: logs 5, 6 and 15. -/
def Obligations.EventsThatAreNotDueDoNothing : Prop :=
  ∀ s : State,
    (s.inReset = true → ∀ i, i ∈ ([.travelPulse, .advance, .standstillExpiry, .periodStart, .parameterBlockLoad,
      .loadCompletion, .millisecondBoundary] : List Instr) → exec i s = .next s) ∧
    (s.inReset = true → ∀ w src p c m good k,
      exec (.demandRecordExpiry w src) s = .next s ∧ exec (.linkTimerExpiry p) s = .next s ∧
      exec (.cycleExpiry w c m) s = .next s ∧ exec (.shortDetected w) s = .next s ∧
      exec (.storeCompletion good) s = .next s ∧ exec (.slotLoad k) s = .next s) ∧
    (∀ w src, (∀ r, demandOf s w src = some r → s.msCount < r.expiry) →
      exec (.demandRecordExpiry w src) s = .next s) ∧
    (∀ p, (∀ n, (portOf s p).linkTimer = some n → s.msCount < n) → exec (.linkTimerExpiry p) s = .next s) ∧
    ((∀ n, s.travel.standstillTimer = some n → s.msCount < n) → exec .standstillExpiry s = .next s) ∧
    (s.travel.advances = 0 → exec .advance s = .next s) ∧
    (s.timer.running = false → exec .periodStart s = .next s) ∧
    (∀ w c m, (∀ d, ¬ ExpiryComes s w d) → exec (.cycleExpiry w c m) s = .next s) ∧
    (∀ w, (wheelOf s w).driver.regulating = false → exec (.shortDetected w) s = .next s) ∧
    (∀ good, s.store.operation = none → exec (.storeCompletion good) s = .next s) ∧
    (s.store.load ≠ some .parameterBlock → exec .parameterBlockLoad s = .next s) ∧
    (∀ k, s.store.load ≠ some (.slot k) → exec (.slotLoad k) s = .next s) ∧
    (s.store.load ≠ some .completion → exec .loadCompletion s = .next s) ∧
    (s.inReset = false → ∀ a b c, exec (.resetEnd a b c) s = .next s)

/-- R40, R41: PREVIEW_LEVEL and PREVIEW_SPAN fill the sending port's staging record; a span of 0 is BAD_ARG. -/
def Obligations.PreviewLevelAndSpanStage : Prop :=
  ∀ (h : Header) (level : BitVec 10) (attr copyFlag : Bool) (span : BitVec 12) (s : State), Receives s h.port →
    let levelFrame := Instr.previewLevel h (level ++ BitVec.ofBool attr ++ BitVec.ofBool copyFlag)
    let g := (portOf s h.port).staging
    let Stages := fun (i : Instr) (g' : Staging) =>
      ∃ t, exec i s = .next t ∧ Answered s t h .ok 0 ∧ (portOf t h.port).staging = g' ∧
        PortKept { s with ports := s.ports.modify h.port fun x => { x with staging := g' } } t h.port ∧
        OthersKept s t h.port ∧ t = { s with ports := t.ports }
    (¬ ((portOf s h.port).role = .preview ∧ WheelMode s.mode) →
      AnswersOnly levelFrame s h .notPermitted 0 ∧ AnswersOnly (.previewSpan h span) s h .notPermitted 0) ∧
    ((portOf s h.port).role = .preview → WheelMode s.mode →
      Stages levelFrame { g with level := level.toNat, attr := attr, copyFlag := copyFlag, levelStaged := true } ∧
      (span ≠ 0 → Stages (.previewSpan h span) { g with span := span.toNat, spanStaged := true }) ∧
      (span = 0 → AnswersOnly (.previewSpan h span) s h .badArg 0))

/-- R42: the checks of PREVIEW_AT in the order of Table 2-4; a command that passes them all is answered OK. -/
def Obligations.PreviewAtIsCheckedInOrder : Prop :=
  ∀ (h : Header) (d : BitVec 12) (s : State), Receives s h.port →
    let Admits := (portOf s h.port).role = .preview ∧ WheelMode s.mode
    let Staged := (portOf s h.port).staging.levelStaged = true ∧ (portOf s h.port).staging.spanStaged = true
    let Full := fun w : Wheel => h.mask.getLsbD w.num = true ∧ 12 ≤ (queueOf s w).length
    (¬ Admits → AnswersOnly (.previewAt h d) s h .notPermitted 0) ∧
    (Admits → h.mask = 0 → AnswersOnly (.previewAt h d) s h .badArg 0) ∧
    (Admits → h.mask ≠ 0 → ¬ Staged → AnswersOnly (.previewAt h d) s h .notStaged 0) ∧
    (Admits → h.mask ≠ 0 → Staged → (∃ w, Full w) →
      ∃ full : BitVec 4, (∀ w, full.getLsbD w.num = true ↔ Full w) ∧
        AnswersOnly (.previewAt h d) s h .full (full.setWidth 16)) ∧
    (Admits → h.mask ≠ 0 → Staged → (¬ ∃ w, Full w) →
      ∃ t data, exec (.previewAt h d) s = .next t ∧ Answered s t h .ok data)

/-- R43, R44, R45: what a PREVIEW_AT that passes its checks inserts, where, and when a lost COPY raises
PREVIEW_DROPPED. That a COPY is PENDING rests on WHEELBASE's range, and that one port takes PREVIEW_DROPPED on distinct
roles. The numbers by which the items and the scheduler count insertions are the model's choice (log 19). -/
def Obligations.PreviewAtInsertsItemsAndCopies : Prop :=
  ∀ (h : Header) (d : BitVec 12) (s : State), SentAs s h .preview → WheelMode s.mode → RolesDistinct s →
    ParamsInRange s.params → h.mask ≠ 0 → (portOf s h.port).staging.levelStaged = true →
    (portOf s h.port).staging.spanStaged = true →
    (∀ w, h.mask.getLsbD w.num = true → (queueOf s w).length < 12) →
    let g := (portOf s h.port).staging
    let P := s.travel.position
    let named := fun w : Wheel => h.mask.getLsbD w.num = true
    let copies := fun f w : Wheel => g.copyFlag = true ∧ f.rearPartner = some w ∧ named f ∧ ¬ named w
    let direct : PreviewItem :=
      ⟨P + d.setWidth 24, g.span, g.level, g.attr, .direct, d == 0, s.preview.arrivals⟩
    let copyOf := fun f : Wheel =>
      (⟨P + d.setWidth 24 + BitVec.ofNat 24 (param s .wheelbase), g.span, g.level, g.attr, .copy f, false,
        s.preview.arrivals⟩ : PreviewItem)
    ∃ (t : State) (received : BitVec 4), exec (.previewAt h d) s = .next t ∧ Answered s t h .ok (received.setWidth 16) ∧
      (∀ w, received.getLsbD w.num = true ↔ named w ∨ ((queueOf s w).length < 12 ∧ ∃ f, copies f w)) ∧
      (∀ w, named w → queueOf t w = placed P direct (queueOf s w)) ∧
      (∀ f w, copies f w → (queueOf s w).length < 12 → queueOf t w = placed P (copyOf f) (queueOf s w)) ∧
      (∀ w, received.getLsbD w.num = false → queueOf t w = queueOf s w) ∧
      t.preview.arrivals = s.preview.arrivals + 1 ∧
      SenderEdged s t h.port (fun e => e = .previewDropped ∧ ∃ f w, copies f w ∧ 12 ≤ (queueOf s w).length) ∧
      OthersKept s t h.port ∧ t = { s with ports := t.ports, preview := t.preview }

/-- R48: PREVIEW_CANCEL. -/
def Obligations.PreviewCancelEmptiesTheNamedQueues : Prop :=
  ∀ (h : Header) (d : BitVec 12) (s : State), Receives s h.port →
    (¬ ((portOf s h.port).role = .preview ∧ WheelMode s.mode) → AnswersOnly (.previewCancel h d) s h .notPermitted 0) ∧
    ((portOf s h.port).role = .preview → WheelMode s.mode → h.mask = 0 →
      AnswersOnly (.previewCancel h d) s h .badArg 0) ∧
    ((portOf s h.port).role = .preview → WheelMode s.mode → h.mask ≠ 0 →
      let count := fun w : Wheel => if h.mask.getLsbD w.num then (queueOf s w).length else 0
      ∃ t, exec (.previewCancel h d) s = .next t ∧
        Answered s t h .ok (word16 (count .fl + count .fr + count .rl + count .rr)) ∧ PortKept s t h.port ∧
        OthersKept s t h.port ∧ (∀ w, queueOf t w = if h.mask.getLsbD w.num then [] else queueOf s w) ∧
        t.preview.arrivals = s.preview.arrivals ∧ t = { s with ports := t.ports, preview := t.preview })

/-- R137: SELECT sets the sending port's pointer; every PUT and GET in a good frame advances it, whatever the status; a
framing error does not; nothing but the port's own frames and a reset changes it, and a reset sets it to 000h. -/
def Obligations.IndexPointerFollowsItsPortsFrames : Prop :=
  (∀ (h : Header) (d : BitVec 12) (s : State), Receives s h.port →
    ∃ t, exec (.select h d) s = .next t ∧ Answered s t h .ok (d.setWidth 16) ∧ PortPointed s t h.port d ∧
      OthersKept s t h.port ∧ t = { s with ports := t.ports }) ∧
    (∀ (i : Instr) (h : Header) (d : BitVec 12) (s : State), i = .put h d ∨ i = .mapPut h d ∨ i = .get h d →
      Receives s h.port →
        ∃ t, exec i s = .next t ∧ (portOf t h.port).pointer = (portOf s h.port).pointer + 1) ∧
    (∀ (i : Instr) (s t : State) (p : Port), exec i s = .next t → (portOf t p).pointer ≠ (portOf s p).pointer →
      (∃ h c, frameOf i = some (h, c) ∧ h.port = p ∧ (c = .select ∨ c = .put ∨ c = .get)) ∨ i = .powerOnReset ∨
        i = .resetLineReset) ∧
    ∀ (i : Instr) (s : State), i = .powerOnReset ∨ i = .resetLineReset →
      ∃ t, exec i s = .next t ∧ ∀ p, (portOf t p).pointer = 0

/-- R139: an admitted PUT at a parameter index (PUT and MAP_PUT are one request frame, log 17), and the refusal at a
read-only or unmapped index. -/
def Obligations.PutStoresAParameter : Prop :=
  ∀ (i : Instr) (h : Header) (d : BitVec 12) (s : State), i = .put h d ∨ i = .mapPut h d → SentAs s h .ride →
    OperatingMode s.mode →
    (∀ k : Param, (portOf s h.port).pointer.toNat = paramIndex k →
      let asked : Int := match k with
        | .trim _ => d.toInt
        | _ => d.toNat
      let stored := max (paramLo k) (min asked (paramHi k))
      let Crosses := ∃ x, (k = .imin x ∧ getParam s.params (.imax x) < stored) ∨
        (k = .imax x ∧ stored < getParam s.params (.imin x))
      (s.mode ≠ .config → paramLive k = false → AnswersAndAdvances i s h .notPermitted 0) ∧
      (s.mode ≠ .config → Crosses → AnswersAndAdvances i s h .badArg 0) ∧
      (s.mode = .config ∨ (paramLive k = true ∧ ¬ Crosses) →
        ∃ t, exec i s = .next t ∧ Answered s t h (if stored = asked then .ok else .clamped) (BitVec.ofInt 16 stored) ∧
          PortAdvanced s t h.port ∧ OthersKept s t h.port ∧
          (∀ j, getParam t.params j = if j = k then stored else getParam s.params j) ∧
          (∀ w, wheelOf t w =
            if k = .zero w ∨ k = .gain w then
              { wheelOf s w with stroke := { (wheelOf s w).stroke with lastPosition := none } }
            else wheelOf s w) ∧
          t = { s with ports := t.ports, params := t.params, wheels := t.wheels })) ∧
    (let x := (portOf s h.port).pointer.toNat
     (0x32 ≤ x ∧ x < 0x200) ∨ 0xB90 ≤ x → AnswersAndAdvances i s h .notPermitted 0)

/-- R90: a PUT at a map index (PUT and MAP_PUT are one request frame, log 17), by mode as Table 4-8 says, in a state whose
map memories keep their form. -/
def Obligations.MapPutWritesByMode : Prop :=
  ∀ (i : Instr) (h : Header) (d : BitVec 12) (s : State) (k : Fin 8) (offset : Nat), i = .put h d ∨ i = .mapPut h d →
    Receives s h.port → MapsLawful s → offset < 306 → (portOf s h.port).pointer.toNat = 0x200 + k.val * 306 + offset →
    let v := min d.toNat 2000
    let status : Status := if d.toNat ≤ 2000 then .ok else .clamped
    let Bound := ∃ b, (bankOf s b).binding = some k
    (¬ ((portOf s h.port).role = .ride ∧ OperatingMode s.mode) → AnswersAndAdvances i s h .notPermitted 0) ∧
    ((portOf s h.port).role = .ride → s.mode = .run ∨ (s.mode = .calibrate ∧ ¬ Bound) →
      AnswersAndAdvances i s h .notPermitted 0) ∧
    ((portOf s h.port).role = .ride → s.mode = .config →
      ∃ t, exec i s = .next t ∧ Answered s t h status (word16 v) ∧ PortAdvanced s t h.port ∧ OthersKept s t h.port ∧
        (∀ j a, Memory.read (slotOf t j).entries a = if j = k ∧ a = offset then v else Memory.read (slotOf s j).entries a) ∧
        (∀ j, (slotOf t j).valid = if j = k then true else (slotOf s j).valid) ∧
        t.map.banks = s.map.banks ∧ t = { s with ports := t.ports, map := t.map }) ∧
    ((portOf s h.port).role = .ride → s.mode = .calibrate →
      ∀ b, (bankOf s b).binding = some k → (∀ c, (bankOf s c).binding = some k → c = b) →
        ∃ t, exec i s = .next t ∧ Answered s t h status (word16 v) ∧ PortAdvanced s t h.port ∧ OthersKept s t h.port ∧
          (∀ c a, Memory.read (bankOf t c).entries a =
            if c = b ∧ a = offset then v else Memory.read (bankOf s c).entries a) ∧
          (∀ c, (bankOf t c).binding = (bankOf s c).binding) ∧
          t.map.slots = s.map.slots ∧ t = { s with ports := t.ports, map := t.map })

/-- R91, R138, Tables 7-7 and 7-9: what GET answers at parameter, map, overlay, device and unmapped indices. -/
def Obligations.GetReadsParametersMapsAndDevice : Prop :=
  ∀ (h : Header) (d : BitVec 12) (s : State), Receives s h.port →
    let At := fun x : Nat => (portOf s h.port).pointer.toNat = x
    (∀ k, At (paramIndex k) → GetReads s h d (BitVec.ofInt 16 (getParam s.params k))) ∧
    (∀ (k : Fin 8) (a : Nat), a < 306 → At (0x200 + k.val * 306 + a) →
      ((s.mode ≠ .calibrate ∨ ¬ ∃ b, (bankOf s b).binding = some k) →
        GetReads s h d (word16 (Memory.read (slotOf s k).entries a))) ∧
      (s.mode = .calibrate → ∀ b, (bankOf s b).binding = some k → (∀ c, (bankOf s c).binding = some k → c = b) →
        GetReads s h d (word16 (Memory.read (bankOf s b).entries a)))) ∧
    (∀ (b : Fin 2) (a : Nat), a < 306 → At (0xC00 + b.val * 306 + a) →
      GetReads s h d (word16 (Memory.read (bankOf s b).entries a))) ∧
    (At 0x100 → GetReads s h d (word16 (modeCode s.mode))) ∧
    (At 0x101 → GetReads s h d (flag16 s.travel.standstill)) ∧
    (At 0x102 → GetReads s h d (word16 (s.travel.position.toNat % 65536))) ∧
    (At 0x103 → GetReads s h d (word16 (s.travel.position.toNat / 65536))) ∧
    (At 0x104 → ∃ v : BitVec 8, (∀ k : Fin 8, v.getLsbD k.val = (slotOf s k).valid) ∧ GetReads s h d (v.setWidth 16)) ∧
    (∀ b : Fin 2, At (0x105 + b.val) → GetReads s h d (word16 (match (bankOf s b).binding with
      | some k => k.val
      | none => 15))) ∧
    (At 0x107 → GetReads s h d (word16 (storeStatusCode s.store.status))) ∧
    (∀ w : Wheel, At (0x108 + w.num) → GetReads s h d (word16 (queueOf s w).length)) ∧
    (∀ w : Wheel, At (0x10C + w.num) → GetReads s h d (word16 ((queueOf s w).filter (·.active)).length)) ∧
    (At 0x13F → GetReads s h d 0x2410) ∧
    (∀ x, UnmappedIndex x → At x → AnswersAndAdvances (.get h d) s h .badArg 0)

/-- R18, R72, R115, R138, R150, Tables 7-9 and 7-11: what GET answers at the fields of demand positions, error banks and
wheel records. That a record which is due and not yet expired reads remaining time 1 is the model's choice (log 7). -/
def Obligations.GetReadsTheRecords : Prop :=
  ∀ (h : Header) (d : BitVec 12) (s : State) (n : Nat) (v : BitVec 16), Receives s h.port →
    let At := fun x : Nat => (portOf s h.port).pointer.toNat = x
    (∀ w src, (demandFields s (demandOf s w src))[n]? = some v →
      At (0x140 + w.num * 0x10 + (if src = .ride then 0 else 8) + n) → GetReads s h d v) ∧
    (∀ k, (bankFields (errorBank s k))[n]? = some v → At (0x110 + bankNum k * 8 + n) → GetReads s h d v) ∧
    (∀ w, (wheelFields (wheelOf s w))[n]? = some v → At (0x180 + w.num * 0x20 + n) → GetReads s h d v)

/-- R121: MODE RUN taken in CONFIG is granted exactly when the checks of Table 6-3 pass; a refusal names the first that
fails. -/
def Obligations.ModeRunFromConfigIsChecked : Prop :=
  ∀ (h : Header) (s : State), SentAs s h .ride → s.mode = .config →
    (∀ n, 1 ≤ n → n ≤ 5 → ¬ CheckPasses s n → (∀ m, 1 ≤ m → m < n → CheckPasses s m) →
      AnswersOnly (.modeRun h) s h .badArg (word16 n)) ∧
    ((∀ n, 1 ≤ n → n ≤ 5 → CheckPasses s n) →
      ∃ t, exec (.modeRun h) s = .next t ∧ t.mode = .run ∧ Granted s t h ∧
        (∀ p, (portOf t p).reported = (portOf s p).reported) ∧ t = { s with ports := t.ports, mode := .run })

/-- R122, R123: MODE CALIBRATE is granted in RUN with CAL_EN high and STANDSTILL set, and refused otherwise in RUN and in
CONFIG; MODE RUN is granted in CALIBRATE without condition, both banks becoming unbound. A pulse does not leave
CALIBRATE. -/
def Obligations.CalibrateIsEnteredAndLeft : Prop :=
  ∀ (h : Header) (s : State), SentAs s h .ride →
    (s.mode = .run → s.calEn = true → s.travel.standstill = true →
      ∃ t, exec (.modeCalibrate h) s = .next t ∧ t.mode = .calibrate ∧ Granted s t h ∧
        (∀ p, (portOf t p).reported = (portOf s p).reported) ∧ t = { s with ports := t.ports, mode := .calibrate }) ∧
    (s.mode = .run → ¬ (s.calEn = true ∧ s.travel.standstill = true) →
      AnswersOnly (.modeCalibrate h) s h .notPermitted 1) ∧
    (s.mode = .config → AnswersOnly (.modeCalibrate h) s h .notPermitted 0) ∧
    (s.mode = .calibrate →
      (∃ t, exec (.modeRun h) s = .next t ∧ t.mode = .run ∧ Granted s t h ∧
        (∀ p, (portOf t p).reported = (portOf s p).reported) ∧
        (∀ b, bankOf t b = { bankOf s b with binding := none }) ∧ t.map.slots = s.map.slots ∧
        t = { s with ports := t.ports, mode := .run, map := t.map }) ∧
      ∃ t, exec .travelPulse s = .next t ∧ t.mode = .calibrate)

/-- R124: MODE CONFIG taken in RUN or CALIBRATE. -/
def Obligations.ModeConfigStopsTheWheels : Prop :=
  ∀ (h : Header) (s : State), SentAs s h .ride → WheelMode s.mode →
    (s.travel.standstill = false → AnswersOnly (.modeConfig h) s h .notPermitted (word16 (modeCode s.mode))) ∧
    (s.travel.standstill = true →
      ∃ t, exec (.modeConfig h) s = .next t ∧ t.mode = .config ∧ Granted s t h ∧
        (∀ p, (portOf t p).reported =
          { (portOf s p).reported with wheelFailsafe := false, wheelDegraded := false }) ∧
        (∀ w src, demandOf t w src = none) ∧ (∀ w, queueOf t w = []) ∧ t.preview.arrivals = s.preview.arrivals ∧
        (∀ b, bankOf t b = { bankOf s b with binding := none }) ∧ t.map.slots = s.map.slots ∧
        (∀ w, wheelOf t w = { wheelOf s w with state := .off, driver := ⟨false, 0⟩, previousTarget := none }) ∧
        t = { s with ports := t.ports, mode := .config, demands := t.demands, preview := t.preview, map := t.map,
                     wheels := t.wheels })

/-- R120: the answers of the mode controller to an admitted MODE request: data 3 to 4095 is BAD_ARG, a request for the
present mode changes nothing, a refused request leaves all as it was, and the data is the code of the mode afterwards but
for a failed check of MODE RUN. -/
def Obligations.ModeRequestsReadBackTheMode : Prop :=
  ∀ (i : Instr) (h : Header) (data : BitVec 12) (s : State),
    (i = .modeConfig h ∧ data = 0) ∨ (i = .modeRun h ∧ data = 1) ∨ (i = .modeCalibrate h ∧ data = 2) ∨
      (i = .modeInvalidRequest h data ∧ 3 ≤ data.toNat) →
    SentAs s h .ride → OperatingMode s.mode →
    ∃ (t : State) (status : Status) (v : BitVec 16), exec i s = .next t ∧ Answered s t h status v ∧
      (3 ≤ data.toNat → status = .badArg) ∧
      (data.toNat = modeCode s.mode → status = .ok ∧ OnlyAnswered s t h status v) ∧
      (status = .ok → t.mode = s.mode ∨ data.toNat = modeCode t.mode) ∧
      (status ≠ .ok → OnlyAnswered s t h status v) ∧
      (v = word16 (modeCode t.mode) ∨
        (s.mode = .config ∧ data = 1 ∧ status = .badArg ∧
          ∃ n, 1 ≤ n ∧ n ≤ 5 ∧ v = word16 n ∧ ¬ CheckPasses s n))

/-- R149: NOTICE returns the most urgent waiting cause and acknowledges it at the sending port alone; with none waiting
it answers 15. -/
def Obligations.NoticeReturnsTheMostUrgentCause : Prop :=
  ∀ (h : Header) (d : BitVec 12) (s : State), Receives s h.port → (portOf s h.port).role ≠ .none →
    (∀ c, Waiting s h.port c → (∀ c', Waiting s h.port c' → causeNum c ≤ causeNum c') →
      ∃ t, exec (.notice h d) s = .next t ∧ Answered s t h .ok (word16 (causeNum c)) ∧
        (portOf t h.port).role = (portOf s h.port).role ∧ (portOf t h.port).pointer = (portOf s h.port).pointer ∧
        (portOf t h.port).staging = (portOf s h.port).staging ∧
        (portOf t h.port).noticeMask = (portOf s h.port).noticeMask ∧
        (∀ e, edgeIn (portOf t h.port).edges e = if c = .edge e then false else edgeIn (portOf s h.port).edges e) ∧
        (∀ l, markIn (portOf t h.port).reported l = if c = .level l then true else markIn (portOf s h.port).reported l) ∧
        OthersKept s t h.port ∧ t = { s with ports := t.ports }) ∧
    ((∀ c, ¬ Waiting s h.port c) → AnswersOnly (.notice h d) s h .ok 15)

/-- R147, R148: NOTICE_MASK sets the sending port's mask to a value of 0 to 9; the ALERT line is asserted exactly while a
cause is pending whose number is below the mask. -/
def Obligations.NoticeMaskGovernsAlert : Prop :=
  (∀ (h : Header) (d : BitVec 12) (s : State), Receives s h.port → (portOf s h.port).role ≠ .none →
    (9 < d.toNat → AnswersOnly (.noticeMask h d) s h .badArg 0) ∧
    (d.toNat ≤ 9 →
      ∃ t, exec (.noticeMask h d) s = .next t ∧ Answered s t h .ok (d.setWidth 16) ∧
        (portOf t h.port).noticeMask = d.toNat ∧ (portOf t h.port).role = (portOf s h.port).role ∧
        (portOf t h.port).pointer = (portOf s h.port).pointer ∧ (portOf t h.port).staging = (portOf s h.port).staging ∧
        (portOf t h.port).edges = (portOf s h.port).edges ∧ (portOf t h.port).reported = (portOf s h.port).reported ∧
        OthersKept s t h.port ∧ t = { s with ports := t.ports })) ∧
    ∀ (s : State) (p : Port), alertOf s p = true ↔ ∃ c, isPending s p c = true ∧ causeNum c < (portOf s p).noticeMask

/-- R105, R152: CLEAR_BANK empties a bank, answers the code it held, and clears the FAILSAFE latch of a wheel bank's
wheel; a bank number above 5 is BAD_ARG. -/
def Obligations.ClearBankEmptiesABank : Prop :=
  ∀ (h : Header) (d : BitVec 12) (s : State), SentAs s h .ride → s.mode ≠ .loading →
    (5 < d.toNat → AnswersOnly (.clearBank h d) s h .badArg 0) ∧
    ∀ k, d.toNat = bankNum k →
      ∃ t, exec (.clearBank h d) s = .next t ∧ Answered s t h .ok (word16 (errorCode (errorBank s k).code)) ∧
        PortKept s t h.port ∧ OthersKept s t h.port ∧
        (∀ j, errorBank t j = if j = k then ⟨false, false, false, .empty, false, 0⟩ else errorBank s j) ∧
        (∀ w, wheelOf t w = if k = .wheel w then { wheelOf s w with latch := false } else wheelOf s w) ∧
        t = { s with ports := t.ports, wheels := t.wheels, errors := t.errors }

/-- R155: the judgement of an admitted STORE_PROGRAM, and what an accepted one captures. -/
def Obligations.StoreProgramCapturesItsTarget : Prop :=
  ∀ (h : Header) (d : BitVec 12) (s : State), SentAs s h .ride → s.mode = .config ∨ s.mode = .calibrate →
    let Accepts := fun c : Capture =>
      ∃ t, exec (.storeProgram h d) s = .next t ∧ Answered s t h .accepted (d.setWidth 16) ∧ PortKept s t h.port ∧
        OthersKept s t h.port ∧
        t = { s with ports := t.ports, store := { s.store with operation := some ⟨h.port, c⟩, status := .busy } }
    (8 < d.toNat → AnswersOnly (.storeProgram h d) s h .badArg 0) ∧
    (d.toNat ≤ 8 → s.store.status = .busy → AnswersOnly (.storeProgram h d) s h .busy 0) ∧
    (s.store.status ≠ .busy →
      (d.toNat = 8 → Accepts (.params s.params)) ∧
      ∀ k : Fin 8, d.toNat = k.val →
        ((slotOf s k).valid = false → AnswersOnly (.storeProgram h d) s h .badArg 0) ∧
        ((slotOf s k).valid = true → Accepts (.slot k (slotOf s k).entries)))

/-- R155, R156: STORE_ABORT and the completion of an operation: image, status, error, STORE_DONE. -/
def Obligations.StoreOperationsEnd : Prop :=
  (∀ (h : Header) (d : BitVec 12) (s : State), SentAs s h .ride → OperatingMode s.mode → RolesDistinct s →
    (s.store.operation = none →
      AnswersOnly (.storeAbort h d) s h .ok (word16 (storeStatusCode s.store.status))) ∧
    ∀ o, s.store.operation = some o →
      ∃ t, exec (.storeAbort h d) s = .next t ∧ Answered s t h .ok 3 ∧
        OnlyTargetWritten s t o.capture false ∧ t.store.operation = none ∧ t.store.status = .aborted ∧
        t.store.load = s.store.load ∧ BankTook s t .store [(.programAborted, some (targetOf o.capture))] ∧
        SenderEdged s t h.port (fun e => (e = .storeDone ∧ o.port = h.port) ∨ LoggedAt s h.port e) ∧
        (∀ q, q ≠ h.port → PortEdged s t q fun e => (e = .storeDone ∧ o.port = q) ∨ LoggedAt s q e) ∧
        t = { s with ports := t.ports, store := t.store, errors := t.errors }) ∧
    ∀ (good : Bool) (o : Operation) (s : State), s.inReset = false → RolesDistinct s → s.store.operation = some o →
      ∃ t, exec (.storeCompletion good) s = .next t ∧ OnlyTargetWritten s t o.capture good ∧
        t.store.operation = none ∧ t.store.status = (if good then .ok else .failed) ∧ t.store.load = s.store.load ∧
        BankTook s t .store (if good then [] else [(.programVerify, some (targetOf o.capture))]) ∧
        (∀ q, PortEdged s t q fun e => (e = .storeDone ∧ o.port = q) ∨ (good = false ∧ LoggedAt s q e)) ∧
        t = { s with ports := t.ports, store := t.store, errors := t.errors }

/-- R94, R95, R96: an admitted OVERLAY_BIND by the lines of Table 4-10, its unbinding, and OVERLAY_COMMIT. -/
def Obligations.OverlayCommandsBindAndCommit : Prop :=
  ∀ (h : Header) (bank spare code : BitVec 4) (d : BitVec 12) (s : State), SentAs s h .ride → s.mode = .calibrate →
    let Leaves := fun (i : Instr) (data : BitVec 16) (b : Fin 2) (x : OverlayBank) (k : Option (Fin 8)) =>
      ∃ t, exec i s = .next t ∧ Answered s t h .ok data ∧ PortKept s t h.port ∧ OthersKept s t h.port ∧
        (∀ c, bankOf t c = if c = b then x else bankOf s c) ∧
        (∀ j, slotOf t j = if k = some j then ⟨(bankOf s b).entries, true⟩ else slotOf s j) ∧
        t = { s with ports := t.ports, map := t.map }
    (1 < bank.toNat →
      AnswersOnly (.overlayBind h bank spare code) s h .badArg 0 ∧ AnswersOnly (.overlayUnbind h bank spare) s h .badArg 0) ∧
    (∀ b : Fin 2, bank.toNat = b.val →
      Leaves (.overlayUnbind h bank spare) 0 b { bankOf s b with binding := none } none ∧
      (8 ≤ code.toNat → code.toNat ≤ 14 → AnswersOnly (.overlayBind h bank spare code) s h .badArg 0) ∧
      ∀ k : Fin 8, code.toNat = k.val →
        ((∃ c, c ≠ b ∧ (bankOf s c).binding = some k) → AnswersOnly (.overlayBind h bank spare code) s h .badArg 0) ∧
        ((¬ ∃ c, c ≠ b ∧ (bankOf s c).binding = some k) →
          Leaves (.overlayBind h bank spare code) 0 b ⟨(slotOf s k).entries, some k⟩ none)) ∧
    (1 < d.toNat → AnswersOnly (.overlayCommit h d) s h .badArg 0) ∧
    ∀ b : Fin 2, d.toNat = b.val →
      ((bankOf s b).binding = none → AnswersOnly (.overlayCommit h d) s h .badArg 0) ∧
      ∀ k, (bankOf s b).binding = some k →
        Leaves (.overlayCommit h d) (word16 k.val) b { bankOf s b with binding := none } (some k)

/-- R133: a framing error is logged in LINK with its port and answered FRAME_ERROR with the tag bits received, and does
nothing else. -/
def Obligations.FramingErrorsAreLoggedAndAnswered : Prop :=
  ∀ (p : Port) (bits : List Bool) (s : State), Receives s p → RolesDistinct s → ¬ isGoodFrame bits = true →
    ∃ (t : State) (tag : BitVec 3), exec (.framingError p bits) s = .next t ∧
      (∀ k, k < 3 → tag.getLsbD (2 - k) = bits.getD (21 + k) false) ∧
      portOf t p = { portOf s p with response := ⟨.frameError, tag, alertOf t p, 0⟩, transaction := .idle,
                                     edges := (portOf t p).edges } ∧
      EdgesAdded s t p (LoggedAt s p) ∧ (∀ q, q ≠ p → PortEdged s t q (LoggedAt s q)) ∧
      BankTook s t .link [(if bits.length = 32 then .frameCrc else .frameLength, some p.num)] ∧
      t = { s with ports := t.ports, errors := t.errors }

/-- R11, R142: a port whose link timer expires becomes SILENT; its records and its staging go, the other ports learn of
it, and LINK_SILENT is logged. -/
def Obligations.LinkTimerExpirySilencesAPort : Prop :=
  ∀ (p : Port) (n : Nat) (s : State), s.inReset = false → RolesDistinct s → (portOf s p).linkTimer = some n →
    n ≤ s.msCount →
    ∃ t, exec (.linkTimerExpiry p) s = .next t ∧
      portOf t p = { portOf s p with link := .silent, linkTimer := none, staging := ⟨0, false, false, false, 0, false⟩,
                                     edges := (portOf t p).edges } ∧
      EdgesAdded s t p (LoggedAt s p) ∧
      (∀ q, q ≠ p → PortEdged s t q fun e => e = .linkLost ∨ LoggedAt s q e) ∧
      (∀ w src r, demandOf t w src = some r ↔ demandOf s w src = some r ∧ r.origin ≠ p) ∧
      BankTook s t .link [(.linkSilent, some p.num)] ∧
      t = { s with ports := t.ports, demands := t.demands, errors := t.errors }

/-- R14, R51, R97, R104, R117, R126, R143: the assertion of SAFE outside SHUTDOWN, with and without an operation in
flight; and a reset that ends with SAFE asserted, be it asserted while the reset lasted (logs 5, 10). -/
def Obligations.SafeEntersShutdown : Prop :=
  (∀ (a b c : BitVec 2) (s : State), s.inReset = true →
    exec .safeAsserted s = .next { s with safeLow := true } ∧
      ∃ t, exec (.resetEnd a b c) { s with safeLow := true } = .next t ∧ t.mode = .shutdown ∧ t.safeLow = true ∧
        t.inReset = false ∧ t.timer.running = false ∧ (∀ w src, demandOf t w src = none) ∧ (∀ w, queueOf t w = []) ∧
        (∀ p, (portOf t p).linkTimer = none ∧ (portOf t p).edges.modeChanged = true) ∧
        ∀ w, (wheelOf t w).state = .off ∧ (wheelOf t w).driver = ⟨false, 0⟩) ∧
  ∀ s : State, s.inReset = false → RolesDistinct s → s.mode ≠ .shutdown →
    ∃ t, exec .safeAsserted s = .next t ∧ t.mode = .shutdown ∧ t.safeLow = true ∧
      (∀ w src, demandOf t w src = none) ∧ (∀ w, queueOf t w = []) ∧ t.preview.arrivals = s.preview.arrivals ∧
      (∀ b, bankOf t b = { bankOf s b with binding := none }) ∧ t.map.slots = s.map.slots ∧
      t.timer = { s.timer with running := false } ∧
      (∀ w, wheelOf t w = { wheelOf s w with state := .off, driver := ⟨false, 0⟩, previousTarget := none }) ∧
      (∀ p, portOf t p =
        { portOf s p with
          linkTimer := none
          edges := (portOf t p).edges
          reported := { (portOf s p).reported with wheelFailsafe := false, wheelDegraded := false } }) ∧
      (s.store.operation = none → t.store = s.store ∧ t.errors = s.errors ∧
        ∀ p, EdgesAdded s t p fun e => e = .modeChanged) ∧
      (∀ o, s.store.operation = some o →
        OnlyTargetWritten s t o.capture false ∧ t.store.operation = none ∧ t.store.status = .aborted ∧
        t.store.load = s.store.load ∧ BankTook s t .store [(.programAborted, some (targetOf o.capture))] ∧
        ∀ p, EdgesAdded s t p fun e => e = .modeChanged ∨ (e = .storeDone ∧ o.port = p) ∨ LoggedAt s p e) ∧
      t = { s with safeLow := true, mode := .shutdown, ports := t.ports, demands := t.demands, preview := t.preview,
                   timer := t.timer, wheels := t.wheels, map := t.map, store := t.store, errors := t.errors }

/-- R125, R126: a fall of CAL_EN ends CALIBRATE; every other change of CAL_EN and SAFE, and every one while a reset
lasts (log 5), leaves all but the level of the line as it was. -/
def Obligations.LineChangesActByMode : Prop :=
  ∀ s : State,
    (s.inReset = false → s.mode = .calibrate →
      ∃ t, exec .calEnFall s = .next t ∧ t.mode = .run ∧
        (∀ b, bankOf t b = { bankOf s b with binding := none }) ∧ t.map.slots = s.map.slots ∧
        (∀ p, portOf t p = { portOf s p with edges := setEdge (portOf s p).edges .modeChanged true }) ∧
        t = { s with calEn := false, mode := .run, ports := t.ports, map := t.map }) ∧
    (s.inReset = true ∨ s.mode ≠ .calibrate → exec .calEnFall s = .next { s with calEn := false }) ∧
    exec .calEnRise s = .next { s with calEn := true } ∧
    exec .safeReleased s = .next { s with safeLow := false } ∧
    (s.inReset = true ∨ s.mode = .shutdown → exec .safeAsserted s = .next { s with safeLow := true })

/-- R29, R33: a travel pulse clears STANDSTILL, restarts its timer, adds the step and fixes the advances; the timer's
expiry sets STANDSTILL. -/
def Obligations.PulsesAndStandstill : Prop :=
  ∀ s : State, s.inReset = false →
    (∃ t, exec .travelPulse s = .next t ∧ t.travel.position = s.travel.position ∧ t.travel.standstill = false ∧
      t.travel.standstillTimer = some (s.msCount + param s .standstillMs) ∧ t.travel.accumulator < 1000 ∧
      s.travel.advances ≤ t.travel.advances ∧
      t.travel.accumulator + 1000 * (t.travel.advances - s.travel.advances) =
        s.travel.accumulator + param s .travelStep ∧
      (s.travel.accumulator ≤ 999 → param s .travelStep ≤ 4095 → t.travel.advances ≤ s.travel.advances + 5) ∧
      t = { s with travel := t.travel }) ∧
    ∀ n, s.travel.standstillTimer = some n → n ≤ s.msCount →
      exec .standstillExpiry s = .next { s with travel := { s.travel with standstill := true, standstillTimer := none } }

/-- R31, R46: an advance moves P by one; in lawful queues it retires exactly the items whose end P has come to and
activates exactly those whose trigger it has come to. -/
def Obligations.AdvanceActivatesAndRetires : Prop :=
  ∀ s : State, s.inReset = false → s.travel.advances ≠ 0 → PreviewLawful s →
    ∃ t, exec .advance s = .next t ∧ t.travel.position = s.travel.position + 1 ∧
      (∀ w, queueOf t w =
        ((queueOf s w).filter fun i => i.trigger + BitVec.ofNat 24 i.span != s.travel.position + 1).map fun i =>
          { i with active := i.active || i.trigger == s.travel.position + 1 }) ∧
      t = { s with travel := { s.travel with position := s.travel.position + 1, advances := s.travel.advances - 1 }
                   preview := { s.preview with queues := t.preview.queues } }

/-- R32: a position is reached exactly when its distance is zero or negative, but for the one position half the range
away, and an advance lowers the distance of every position that the queues use by one. -/
def Obligations.ReachedAgreesWithDistance : Prop :=
  ∀ P X : BitVec 24,
    (reached P X = true ↔ (P - X).toNat < 2 ^ 23) ∧
    (distanceTo P X = if (X - P).toNat < 2 ^ 23 then ((X - P).toNat : Int) else (X - P).toNat - 2 ^ 24) ∧
    (X - P ≠ 0x800000 → (reached P X = true ↔ distanceTo P X ≤ 0) ∧ distanceTo (P + 1) X = distanceTo P X - 1)

/-- R55: a period begins with the CYCLE_US and the phases that stand in the parameter space (how the instants are
reckoned is the model's: log 8). -/
def Obligations.PeriodStartTakesItsParameters : Prop :=
  ∀ s : State, s.inReset = false → s.timer.running = true →
    exec .periodStart s =
      .next { s with timer :=
        { running := true
          counter := 0
          period := some ⟨param s .cycleUs, ⟨param s (.phase .fl), param s (.phase .fr), param s (.phase .rl),
            param s (.phase .rr)⟩⟩
          periodStart := s.timer.periodStart + (match s.timer.period with
            | some d => d.length
            | none => 0) } }

/-- R56, R58, R60-R71, R108: steps 1 to 3 of a cycle expiry in every state of the wheel, the measured current, the errors
logged, and what the expiry leaves alone. R55: the instant of the expiry stands in the record, R71's next interval runs from
it, and a second expiry of the wheel in the same period changes nothing. That the period counter stands at the wheel's phase
afterwards, how the instants of R71 are reckoned and that the second expiry leaves the state as it is, is the model's choice
(logs 6, 8), and so is the regular interval by coincidence (log 31). -/
def Obligations.CycleExpiryFollowsTheStroke : Prop :=
  ∀ (w : Wheel) (code : BitVec 12) (m : Fin 2601) (d : Period) (s : State), ExpiryComes s w d → RolesDistinct s →
    let c := code.toNat
    let k := (wheelOf s w).stroke
    let x : Int := ((c : Int) - getParam s.params (.zero w)) * getParam s.params (.gain w)
    let step := fun raw : Int => k.velocity + ((raw - k.velocity) * param s .kFilt).tdiv 16
    ∃ t, exec (.cycleExpiry w code m) s = .next t ∧ (wheelOf t w).measured = m.val ∧
      (wheelOf t w).latched =
        ⟨getParam s.params (.trim w), param s (.imin w.axle), param s (.imax w.axle), param s (.slewUp w.axle),
          param s (.slewDown w.axle), param s .kFilt, param s .defLevel, param s .band⟩ ∧
      (OutOfRange s c → ∀ lost : Bool, (lost = true ↔ k.status = .ok ∧ k.bad = 2) →
        (wheelOf t w).stroke.status = (if lost then .lost else k.status) ∧ (wheelOf t w).stroke.good = 0 ∧
        (wheelOf t w).stroke.bad = min (k.bad + 1) 3 ∧ (wheelOf t w).stroke.lastCode = k.lastCode ∧
        (wheelOf t w).stroke.velocity = k.velocity ∧
        (Irregular s w d → (wheelOf t w).stroke.status = .ok → (wheelOf t w).stroke.lastPosition = none) ∧
        (¬ (Irregular s w d ∧ (wheelOf t w).stroke.status = .ok) →
          (wheelOf t w).stroke.lastPosition = k.lastPosition)) ∧
      (¬ OutOfRange s c → k.status = .ok →
        (k.lastPosition = none ∨ Irregular s w d →
          (wheelOf t w).stroke = ⟨.ok, 0, k.good, c, some x, step 0⟩) ∧
        (∀ l, k.lastPosition = some l → ¬ Irregular s w d →
          (wheelOf t w).stroke =
            ⟨.ok, 0, k.good, c, some x, step (max (-4000) (min (((x - l) * 1000).tdiv d.length) 4000))⟩)) ∧
      (¬ OutOfRange s c → k.status = .lost →
        (k.good < 15 → (wheelOf t w).stroke = { k with bad := 0, good := k.good + 1, lastCode := c }) ∧
        (15 ≤ k.good → (wheelOf t w).stroke = ⟨.ok, 0, 0, c, some x, step 0⟩)) ∧
      BankTook s t (.wheel w) (expiryErrors s w c m.val) ∧
      (∀ u, u ≠ w → wheelOf t u = wheelOf s u) ∧
      (∀ p, portOf t p = { portOf s p with edges := (portOf t p).edges, reported := (portOf t p).reported } ∧
        EdgesAdded s t p fun e => expiryErrors s w c m.val ≠ [] ∧ LoggedAt s p e) ∧
      t.timer = { s.timer with counter := d.phases.get w } ∧
      (wheelOf t w).lastExpiry = some (s.timer.periodStart + d.phases.get w) ∧
      (∀ code' m', exec (.cycleExpiry w code' m') t = .next t) ∧
      t = { s with ports := t.ports, timer := t.timer, wheels := t.wheels, errors := t.errors }

/-- R101, R105, R109, R110, R111: the checks of an expiry at which the wheel was running, and the settling of a wheel that
does not run on: OFF outside RUN and CALIBRATE, FAILSAFE with the latch set or the coil found open. -/
def Obligations.CycleExpiryChecksTheCoil : Prop :=
  ∀ (w : Wheel) (code : BitVec 12) (m : Fin 2601) (d : Period) (s : State), ExpiryComes s w d →
    let r := wheelOf s w
    ∃ t, exec (.cycleExpiry w code m) s = .next t ∧
      (Running r →
        (wheelOf t w).regulationCount =
          (if Deviating s w m.val then (if r.regulationCount = 7 then 0 else r.regulationCount + 1) else 0) ∧
        (wheelOf t w).openCount = (if OpenCycle s w m.val then r.openCount + 1 else 0)) ∧
      (¬ Running r → (¬ WheelMode s.mode ∨ r.latch = true) →
        (wheelOf t w).regulationCount = r.regulationCount ∧ (wheelOf t w).openCount = r.openCount) ∧
      (CoilFoundOpen s w m.val → (wheelOf t w).state = .failsafe ∧ (wheelOf t w).latch = true) ∧
      (¬ CoilFoundOpen s w m.val → (wheelOf t w).latch = r.latch ∧
        (¬ WheelMode s.mode → (wheelOf t w).state = .off) ∧
        (WheelMode s.mode → r.latch = true → (wheelOf t w).state = .failsafe)) ∧
      (CoilFoundOpen s w m.val ∨ ¬ WheelMode s.mode ∨ r.latch = true →
        (wheelOf t w).driver = ⟨false, 0⟩ ∧ (wheelOf t w).previousTarget = none ∧
        (wheelOf t w).arbitrated = r.arbitrated ∧ (wheelOf t w).mapResult = r.mapResult ∧
        (wheelOf t w).target = r.target)

/-- R20-R26, R79, R85-R88, R101, R107, R109: a cycle that the wheel runs in ACTIVE or DEGRADED: settling, arbitration,
lookup, trim, slew, clamp, and the target handed to the driver. -/
def Obligations.RunningCycleSetsTheTarget : Prop :=
  ∀ (w : Wheel) (code : BitVec 12) (m : Fin 2601) (d : Period) (s : State), ExpiryComes s w d → WheelMode s.mode →
    (wheelOf s w).latch = false → ¬ CoilFoundOpen s w m.val →
    ∃ (t : State) (q v : Int), exec (.cycleExpiry w code m) s = .next t ∧
      let r := wheelOf s w
      let r' := wheelOf t w
      let a := r'.arbitrated
      let b := demandOutcome s w r'.latched.defLevel
      (r'.state = if r'.stroke.status = .ok then .active else .degraded) ∧
      (v = if r'.stroke.status = .ok then r'.stroke.velocity else 0) ∧
      a.winner = b.winner ∧ a.level = b.level ∧ a.attr = b.attr ∧
      a.slot = Fin.ofNat 8 (param s (if b.attr then .mapselB w else .mapselA w)) ∧
      (∀ n, a.bank = some n → (bankOf s n).binding = some a.slot) ∧
      (a.bank = none → ∀ n, (bankOf s n).binding ≠ some a.slot) ∧
      r'.mapResult = mapLookup s a v ∧
      (r.previousTarget = none → q = r'.mapResult + r'.latched.trim) ∧
      (∀ n, r.previousTarget = some n →
        q = max ((n : Int) - r'.latched.slewDown)
          (if a.winner = .stability then r'.mapResult + r'.latched.trim
           else min (r'.mapResult + r'.latched.trim) (n + r'.latched.slewUp))) ∧
      (r'.latched.imin ≤ r'.latched.imax → (r'.target : Int) = max (r'.latched.imin : Int) (min q (r'.latched.imax : Int))) ∧
      r'.previousTarget = some r'.target ∧ r'.driver = ⟨true, r'.target⟩ ∧
      (¬ Running r → r'.openCount = 0 ∧ r'.regulationCount = 0)

/-- R21, R22, R23, R47: the effective item is the ACTIVE item inserted last; a preview item outranks a RIDE record, which
outranks the default; the floor raises the level only when strictly above it, and never changes the attribute. -/
def Obligations.ArbitrationFollowsPrecedence : Prop :=
  (∀ q : List PreviewItem,
    (∀ i, effectiveItem q = some i → i ∈ q ∧ i.active = true ∧ ∀ j ∈ q, j.active = true → j.arrival ≤ i.arrival) ∧
    (effectiveItem q = none ↔ ∀ i ∈ q, i.active = false)) ∧
    ∀ (s : State) (w : Wheel) (defLevel : Nat),
      let base : Base := match effectiveItem (queueOf s w), demandOf s w .ride with
        | some i, _ => ⟨i.level, i.attr, .preview⟩
        | none, some r => ⟨r.level, r.attr.getD false, .ride⟩
        | none, none => ⟨defLevel, false, .default⟩
      let outcome := demandOutcome s w defLevel
      (demandOf s w .stability = none → outcome = base) ∧
      ∀ f, demandOf s w .stability = some f →
        (base.level < f.level → outcome = ⟨f.level, base.attr, .stability⟩) ∧
        (f.level ≤ base.level → outcome = base) ∧ f.level ≤ outcome.level

/-- R79-R83: the lookup's plane and memory, the entry of both axes, the map result as N rounded half up, which entries
it reads, and that it lies between them. -/
def Obligations.LookupInterpolates : Prop :=
  (∀ x lsb len : Nat,
    (x < 2 ^ (lsb + len) → axisIndex x lsb len = x / 2 ^ lsb ∧ axisIndex x lsb len < 2 ^ len ∧
      axisRemainder x lsb len = x % 2 ^ lsb) ∧
    (2 ^ (lsb + len) ≤ x → axisIndex x lsb len = 2 ^ len ∧ axisRemainder x lsb len = 0)) ∧
    (∀ (E : Nat → Nat → Nat) (i a j b vlsb llsb : Nat), a < 2 ^ vlsb → b < 2 ^ llsb →
      let M := interpolate E i a j b vlsb llsb
      let N := (E i j * (2 ^ vlsb - a) + E (i + 1) j * a) * (2 ^ llsb - b) +
        (E i (j + 1) * (2 ^ vlsb - a) + E (i + 1) (j + 1) * a) * b
      let Reads := fun r c : Nat => (r = i ∨ (r = i + 1 ∧ a ≠ 0)) ∧ (c = j ∨ (c = j + 1 ∧ b ≠ 0))
      (2 * N < (2 * M + 1) * 2 ^ (vlsb + llsb) ∧ 2 * M * 2 ^ (vlsb + llsb) ≤ 2 * N + 2 ^ (vlsb + llsb)) ∧
      (∀ lo hi, (∀ r c, Reads r c → lo ≤ E r c ∧ E r c ≤ hi) → lo ≤ M ∧ M ≤ hi) ∧
      ∀ F, (∀ r c, Reads r c → F r c = E r c) → interpolate F i a j b vlsb llsb = M) ∧
    ∀ (s : State) (a : Arbitrated) (v : Int),
      mapLookup s a v =
        interpolate
          (fun row column =>
            Memory.read (match a.bank with
              | some n => (bankOf s n).entries
              | none => (slotOf s a.slot).entries) ((if v < 0 then 153 else 0) + row * 9 + column))
          (axisIndex v.natAbs (param s .vlsb) (param s .vlen)) (axisRemainder v.natAbs (param s .vlsb) (param s .vlen))
          (axisIndex a.level (param s .llsb) (param s .llen)) (axisRemainder a.level (param s .llsb) (param s .llen))
          (param s .vlsb) (param s .llsb)

/-- R68: the new v_f lies between the old v_f and v_raw, both included. -/
def Obligations.FilterStaysBetween : Prop :=
  ∀ (v raw : Int) (k : Nat), 1 ≤ k → k ≤ 16 →
    min v raw ≤ filteredVelocity v raw k ∧ filteredVelocity v raw k ≤ max v raw ∧
      (k = 16 → filteredVelocity v raw k = raw) ∧ 16 * |filteredVelocity v raw k - v| ≤ k * |raw - v|

/-- R88: between two consecutive cycle expiries of a wheel that stays ACTIVE or DEGRADED, its target falls by no more than
the latched SLEW_DOWN, but where the latched IMAX is below that. -/
def Obligations.TargetFallIsLimited : Prop :=
  ∀ (w u : Wheel) (code : BitVec 12) (m : Fin 2601) (s t : State), DriversLawful s →
    exec (.cycleExpiry u code m) s = .next t → Running (wheelOf s w) → Running (wheelOf t w) →
    (wheelOf s w).target ≤ (wheelOf t w).target + (wheelOf t w).latched.slewDown ∨
      ((wheelOf t w).target = (wheelOf t w).latched.imax ∧
        (wheelOf t w).latched.imax + (wheelOf t w).latched.slewDown < (wheelOf s w).target)

/-- R105, R112: a short turns the driver off, sets the latch and logs COIL_SHORT at that instant; the counters and the
fields of the last running cycle stay. -/
def Obligations.ShortTurnsTheDriverOff : Prop :=
  ∀ (w : Wheel) (s : State), s.inReset = false → RolesDistinct s → (wheelOf s w).driver.regulating = true →
    ∃ t, exec (.shortDetected w) s = .next t ∧
      (∀ u, wheelOf t u =
        if u = w then
          { wheelOf s w with state := .failsafe, latch := true, driver := ⟨false, 0⟩, previousTarget := none }
        else wheelOf s u) ∧
      BankTook s t (.wheel w) [(.coilShort, none)] ∧
      (∀ p, portOf t p = { portOf s p with edges := (portOf t p).edges, reported := (portOf t p).reported } ∧
        EdgesAdded s t p (LoggedAt s p)) ∧
      t = { s with ports := t.ports, wheels := t.wheels, errors := t.errors }

/-- R54, R119, R154: the steps of the load in their order, each with a good and with an invalid image, and its completion.
That LOAD_COMPLETION itself takes the first period, which begins at instant 0, is the model's choice (logs 8, 24). -/
def Obligations.LoadRunsThroughItsSteps : Prop :=
  ∀ s : State, s.inReset = false → RolesDistinct s →
    (s.store.load = some .parameterBlock →
      ∃ t, exec .parameterBlockLoad s = .next t ∧ t.store = { s.store with load := some (.slot 0) } ∧
        (∀ ps crc, s.store.paramImage = .stored ps crc → crc16 (paramWords ps) = crc →
          t = { s with params := ps, store := t.store }) ∧
        ((∀ ps crc, s.store.paramImage = .stored ps crc → crc16 (paramWords ps) ≠ crc) →
          BankTook s t .store [(.paramBad, none)] ∧ (∀ p, PortEdged s t p (LoggedAt s p)) ∧
          t = { s with ports := t.ports, store := t.store, errors := t.errors })) ∧
    (∀ k : Fin 8, s.store.load = some (.slot k) →
      ∃ t, exec (.slotLoad k) s = .next t ∧
        (∃ l, t.store = { s.store with load := some l } ∧ (∀ n : Fin 8, l = .slot n ↔ n.val = k.val + 1) ∧
          (l = .completion ↔ k = 7)) ∧
        (∀ m crc, s.store.slotImages[k] = .stored m crc → crc16 (memoryWords m) = crc →
          (∀ j, slotOf t j = if j = k then ⟨m, true⟩ else slotOf s j) ∧ t.map.banks = s.map.banks ∧
          t = { s with map := t.map, store := t.store }) ∧
        ((∀ m crc, s.store.slotImages[k] = .stored m crc → crc16 (memoryWords m) ≠ crc) →
          BankTook s t .store [(.slotBad, some k.val)] ∧ (∀ p, PortEdged s t p (LoggedAt s p)) ∧
          t = { s with ports := t.ports, store := t.store, errors := t.errors })) ∧
    (s.store.load = some .completion →
      ∃ t, exec .loadCompletion s = .next t ∧ t.store = { s.store with load := none, status := .ok } ∧
        (s.mode = .loading →
          t.timer = ⟨true, 0, some ⟨param s .cycleUs, ⟨param s (.phase .fl), param s (.phase .fr), param s (.phase .rl),
            param s (.phase .rr)⟩⟩, 0⟩ ∧
          (∀ p, portOf t p = { portOf s p with edges := setEdge (portOf s p).edges .modeChanged true }) ∧
          t = { s with mode := .config, ports := t.ports, timer := t.timer, store := t.store }) ∧
        (s.mode = .shutdown → t = { s with store := t.store }))

/-- R116, R118, R130, R144, R150, R156 and the reset columns of the chapters: what a reset of either kind leaves at its
start; a power-on reset alone clears the error banks, and an operation in flight leaves its image invalid. While the
reset lasts these are the model's choice: roles NONE (log 4), count 0 (log 9), line levels kept (log 10), store status OK
(log 14), a transaction in progress lost (log 15), waiting commands kept (log 29). -/
def Obligations.ResetsReturnToLoading : Prop :=
  ∀ (i : Instr) (s : State), i = .powerOnReset ∨ i = .resetLineReset →
    ∃ t, exec i s = .next t ∧ t.inReset = true ∧ t.mode = .loading ∧
      (∀ p, portOf t p = { PortState.reset with transaction := (portOf t p).transaction } ∧
        ((portOf s p).transaction = .idle → (portOf t p).transaction = .idle) ∧
        ((portOf s p).transaction ≠ .idle → (portOf t p).transaction = .lost)) ∧
      (∀ w, wheelOf t w = WheelRecord.reset) ∧
      t.store.status = .ok ∧ t.store.operation = none ∧ t.store.load = none ∧
      (s.store.operation = none → t.store.slotImages = s.store.slotImages ∧ t.store.paramImage = s.store.paramImage) ∧
      (∀ o, s.store.operation = some o → OnlyTargetWritten s t o.capture false) ∧
      t.errors = (if i = .powerOnReset then State.reset.errors else s.errors) ∧
      t = { State.reset with safeLow := s.safeLow, calEn := s.calEn, ports := t.ports, store := t.store,
                             errors := t.errors, pending := s.pending }

/-- R135: roles from the straps at the end of a reset, judged A, B, C, with a ROLE_CONFLICT for each port whose strap names
a role already held; no two ports hold one role, and a role holds until the next reset. -/
def Obligations.ResetEndAssignsTheRoles : Prop :=
  (∀ (strap : PerPort (BitVec 2)) (s : State), s.inReset = true → s.mode = .loading → s.store.operation = none →
    ∃ t, exec (.resetEnd strap.a strap.b strap.c) s = .next t ∧
      let asked := fun p => roleOfStrap (strap.get p)
      let got := fun p => (portOf t p).role
      let Before := fun q p : Port => q.num < p.num
      (∀ p, (∃ q, Before q p ∧ got q = asked p ∧ asked p ≠ .none) → got p = .none) ∧
      (∀ p, (¬ ∃ q, Before q p ∧ got q = asked p ∧ asked p ≠ .none) → got p = asked p) ∧
      RolesDistinct t ∧
      BankTook s t .link
        ((if got .b = asked .b then [] else [(.roleConflict, some 2)]) ++
          (if got .c = asked .c then [] else [(.roleConflict, some 3)])) ∧
      (∀ p, EdgesAdded s t p fun e =>
        (LoggedAt t p e ∧ ∃ q, got q ≠ asked q) ∨ (s.safeLow = true ∧ e = .modeChanged)) ∧
      t.inReset = false ∧ t.store = { s.store with status := .busy, load := some .parameterBlock } ∧
      (∀ p, (portOf t p).response.status = .noRequest ∧ (portOf t p).response.tag = 0 ∧
        (portOf t p).response.data = 0) ∧
      (s.safeLow = true → t.mode = .shutdown ∧
        ∃ u, exec (.resetEnd strap.a strap.b strap.c) { s with safeLow := false } = .next u ∧
          exec .safeAsserted u = .next t) ∧
      (s.safeLow = false → (∀ p, (portOf t p).response.alert = alertOf t p) ∧
        (∀ p, portOf t p = { portOf s p with role := (portOf t p).role, response := (portOf t p).response,
                                             edges := (portOf t p).edges }) ∧
        t = { s with inReset := false, ports := t.ports, store := t.store, errors := t.errors })) ∧
    ∀ (i : Instr) (p : Port) (s t : State), exec i s = .next t → (portOf t p).role ≠ (portOf s p).role →
      i = .powerOnReset ∨ i = .resetLineReset ∨ ∃ a b c, i = .resetEnd a b c

/-- R151: the three rows of an error's arrival, the BANK_LOGGED at the RIDE port, two errors that meet, and the law that an
uncorrected error keeps its code and information until CLEAR_BANK of its bank or a power-on reset, whatever happens. -/
def Obligations.ErrorBanksFollowTheirLaw : Prop :=
  (∀ (s : State) (k : BankId) (c : ErrorCode) (info : Option Nat), RolesDistinct s →
    let b := errorBank s k
    let t := logError s k c info
    (∀ j, j ≠ k → errorBank t j = errorBank s j) ∧
    (b.valid = false → errorBank t k = ⟨true, isUncorrected c, b.overflow, c, info.isSome, info.getD 0⟩) ∧
    (b.valid = true → b.uncorrected = false →
      errorBank t k = ⟨true, isUncorrected c, true, c, info.isSome, info.getD 0⟩) ∧
    (b.valid = true → b.uncorrected = true → errorBank t k = { b with overflow := true }) ∧
    (∀ p, PortEdged s t p (LoggedAt s p)) ∧ t = { s with ports := t.ports, errors := t.errors }) ∧
    (∀ (b : ErrorRecord) (x y : ErrorCode × Option Nat), b.valid = false ∨ b.uncorrected = false →
      let both := takeError (takeError b x.1 x.2) y.1 y.2
      let held := if isUncorrected x.1 = true then x else y
      both = ⟨true, isUncorrected held.1, true, held.1, held.2.isSome, held.2.getD 0⟩) ∧
    ∀ (i : Instr) (s t : State) (k : BankId), exec i s = .next t → (errorBank s k).valid = true →
      (errorBank s k).uncorrected = true → i ≠ .powerOnReset → (∀ h d, i = .clearBank h d → d.toNat ≠ bankNum k) →
      errorBank t k = { errorBank s k with overflow := (errorBank t k).overflow }

/-- R127: once in SHUTDOWN, the device stays in SHUTDOWN until a reset, whatever is commanded. -/
def Obligations.ShutdownLastsUntilReset : Prop :=
  ∀ (i : Instr) (s t : State), exec i s = .next t → s.mode = .shutdown → i ≠ .powerOnReset → i ≠ .resetLineReset →
    t.mode = .shutdown

/-- R75, R93: a step keeps map memories in canonical form with entries of 0..2,000 mA (the
form is the model's: log 28). -/
def Obligations.StepKeepsMapsLawful : Prop :=
  ∀ s t : State, MapsLawful s → step s = .next t → MapsLawful t

/-- R1, R2, R135: a step keeps roles distinct and every demand record at the port that holds its source's role. -/
def Obligations.StepKeepsRolesAndDemandsLawful : Prop :=
  ∀ s t : State, RolesDistinct s → DemandsLawful s → step s = .next t → RolesDistinct t ∧ DemandsLawful t

/-- R68, Table 3-4, Table 7-8: a step keeps every parameter in its range and every wheel's stroke fields in theirs, v_f
within -4,000..+4,000 mm/s. -/
def Obligations.StepKeepsParametersAndStrokesLawful : Prop :=
  ∀ s t : State, ParamsLawful s → StrokesLawful s → step s = .next t → ParamsLawful t ∧ StrokesLawful t

/-- R36, R38: a step keeps every preview queue at most 12 long, in order of distance, with no reached end. -/
def Obligations.StepKeepsQueuesLawful : Prop :=
  ∀ s t : State, ParamsLawful s → PreviewLawful s → step s = .next t → PreviewLawful t

/-- R13, R14, R51, R54, R93, R97, R104, R143: a step keeps what each device mode means for the blocks. R24, R78, R122: with
it, a step keeps the checks of MODE RUN standing in RUN and CALIBRATE. -/
def Obligations.StepKeepsModesLawful : Prop :=
  (∀ s t : State, ModeLawful s → step s = .next t → ModeLawful t) ∧
    ∀ s t : State, ModeLawful s → ChecksStand s → step s = .next t → ChecksStand t

/-- R107: a step keeps the law on coil currents: none in OFF and FAILSAFE, else the target, between the latched IMIN and
IMAX. R31, R109, Tables 2-1 and 5-4: a step keeps the diagnostic counts, the measured currents and the accumulator in their
ranges. -/
def Obligations.StepKeepsDriversLawful : Prop :=
  (∀ s t : State, DriversLawful s → step s = .next t → DriversLawful t) ∧
    ∀ s t : State, CountsLawful s → step s = .next t → CountsLawful t

/-- R144, R146: a reported mark stands only while its level cause is pending; a wheel that newly enters FAILSAFE or
DEGRADED clears that cause's mark at every port; a mark whose cause goes on and gains no wheel is kept; and a NOTICE at the
port alone sets a mark. -/
def Obligations.ReportedMarksFollowTheirCauses : Prop :=
  (∀ s t : State, MarksLawful s → step s = .next t → MarksLawful t) ∧
    ∀ (i : Instr) (s t : State) (p : Port) (l : LevelCause), exec i s = .next t →
      (∀ w, EntersCause s t l w → markIn (portOf t p).reported l = false) ∧
      (markIn (portOf s p).reported l = true → levelHolds t l = true → (∀ w, ¬ EntersCause s t l w) →
        markIn (portOf t p).reported l = true) ∧
      (markIn (portOf s p).reported l = false → markIn (portOf t p).reported l = true → ∃ h d, i = .notice h d ∧ h.port = p)

/-- Tables 7-2 and 7-5, R132: the request frame of a well-formed command is a good frame, and reading it gives the command
back (MAP_PUT and PUT being one frame, log 17). -/
def Obligations.RequestFramesReadBack : Prop :=
  ∀ (i : Instr) (h : Header) (c : Command), i.wellFormed = true → frameOf i = some (h, c) →
    ∃ f, encodeFrame i = some f ∧ isGoodFrame (bitsOfWord f) = true ∧
      decodeFrame h.port (bitsOfWord f) =
        match i with
        | .mapPut h' d => .put h' d
        | j => j

/-- The state after reset meets every invariant stated above. Some of its values are the model's choice (logs 4, 9, 10, 12,
14, 15). -/
def Obligations.ResetIsLawful : Prop :=
  MapsLawful State.reset ∧ RolesDistinct State.reset ∧ DemandsLawful State.reset ∧ ParamsLawful State.reset ∧
    StrokesLawful State.reset ∧ PreviewLawful State.reset ∧ ModeLawful State.reset ∧ ChecksStand State.reset ∧
    DriversLawful State.reset ∧ CountsLawful State.reset ∧ MarksLawful State.reset

end Statements
end

