-- ==== Sys2Proof/Laws/Containers.lean ====
section
/-! SUPPORT. Reading what was written in the per-port and per-wheel containers. -/

namespace Sys2Proof

namespace PerPort

variable {α : Type}

@[simp] theorem get_same (x : α) (p : Port) : (same x).get p = x := by cases p <;> rfl

@[simp] theorem get_set_self (v : PerPort α) (p : Port) (x : α) : (v.set p x).get p = x := by cases p <;> rfl

theorem get_set_ne (v : PerPort α) {p q : Port} (x : α) (h : q ≠ p) : (v.set p x).get q = v.get q := by
  cases p <;> cases q <;> first | rfl | exact absurd rfl h

theorem get_set (v : PerPort α) (p q : Port) (x : α) : (v.set p x).get q = if q = p then x else v.get q := by
  cases p <;> cases q <;> rfl

@[simp] theorem get_modify_self (v : PerPort α) (p : Port) (f : α → α) : (v.modify p f).get p = f (v.get p) := by
  simp [modify]

theorem get_modify_ne (v : PerPort α) {p q : Port} (f : α → α) (h : q ≠ p) : (v.modify p f).get q = v.get q := by
  simp [modify, get_set_ne v _ h]

theorem get_modify (v : PerPort α) (p q : Port) (f : α → α) :
    (v.modify p f).get q = if q = p then f (v.get q) else v.get q := by
  cases p <;> cases q <;> rfl

@[simp] theorem get_mapWith (v : PerPort α) (f : Port → α → α) (p : Port) : (v.mapWith f).get p = f p (v.get p) := by
  cases p <;> rfl

@[simp] theorem set_set (v : PerPort α) (p : Port) (x y : α) : (v.set p x).set p y = v.set p y := by cases p <;> rfl

@[simp] theorem modify_modify (v : PerPort α) (p : Port) (f g : α → α) :
    (v.modify p f).modify p g = v.modify p (g ∘ f) := by cases p <;> rfl

theorem ext_get {v u : PerPort α} (h : ∀ p, v.get p = u.get p) : v = u := by
  cases v; cases u
  have ha := h .a
  have hb := h .b
  have hc := h .c
  simp only [get] at ha hb hc
  rw [ha, hb, hc]

end PerPort

namespace PerWheel

variable {α : Type}

@[simp] theorem get_same (x : α) (w : Wheel) : (same x).get w = x := by cases w <;> rfl

@[simp] theorem get_set_self (v : PerWheel α) (w : Wheel) (x : α) : (v.set w x).get w = x := by cases w <;> rfl

theorem get_set_ne (v : PerWheel α) {w u : Wheel} (x : α) (h : u ≠ w) : (v.set w x).get u = v.get u := by
  cases w <;> cases u <;> first | rfl | exact absurd rfl h

theorem get_set (v : PerWheel α) (w u : Wheel) (x : α) : (v.set w x).get u = if u = w then x else v.get u := by
  cases w <;> cases u <;> rfl

@[simp] theorem get_modify_self (v : PerWheel α) (w : Wheel) (f : α → α) : (v.modify w f).get w = f (v.get w) := by
  simp [modify]

theorem get_modify_ne (v : PerWheel α) {w u : Wheel} (f : α → α) (h : u ≠ w) : (v.modify w f).get u = v.get u := by
  simp [modify, get_set_ne v _ h]

theorem get_modify (v : PerWheel α) (w u : Wheel) (f : α → α) :
    (v.modify w f).get u = if u = w then f (v.get u) else v.get u := by
  cases w <;> cases u <;> rfl

@[simp] theorem get_mapWith {β : Type} (v : PerWheel α) (f : Wheel → α → β) (w : Wheel) :
    (v.mapWith f).get w = f w (v.get w) := by cases w <;> rfl

@[simp] theorem modify_modify (v : PerWheel α) (w : Wheel) (f g : α → α) :
    (v.modify w f).modify w g = v.modify w (g ∘ f) := by cases w <;> rfl

theorem ext_get {v u : PerWheel α} (h : ∀ w, v.get w = u.get w) : v = u := by
  cases v; cases u
  have h0 := h .fl
  have h1 := h .fr
  have h2 := h .rl
  have h3 := h .rr
  simp only [get] at h0 h1 h2 h3
  rw [h0, h1, h2, h3]

end PerWheel

/-- Every port stands in the list of ports. -/
theorem Port.mem_all (p : Port) : p ∈ Port.all := by cases p <;> decide

/-- Every wheel stands in the list of wheels. -/
theorem Wheel.mem_all (w : Wheel) : w ∈ Wheel.all := by cases w <;> decide

end Sys2Proof
end

