-- ==== Sys2Proof/Laws/State.lean ====
section
/-! SUPPORT. What each named update of State leaves unchanged: one lemma for each field an update does not touch. -/

namespace Sys2Proof.Machine

section modifyPort
variable (s : State) (p : Port) (f : PortState → PortState)
@[simp] theorem modifyPort_inReset : (modifyPort s p f).inReset = s.inReset := rfl
@[simp] theorem modifyPort_mode : (modifyPort s p f).mode = s.mode := rfl
@[simp] theorem modifyPort_safeLow : (modifyPort s p f).safeLow = s.safeLow := rfl
@[simp] theorem modifyPort_calEn : (modifyPort s p f).calEn = s.calEn := rfl
@[simp] theorem modifyPort_msCount : (modifyPort s p f).msCount = s.msCount := rfl
@[simp] theorem modifyPort_demands : (modifyPort s p f).demands = s.demands := rfl
@[simp] theorem modifyPort_travel : (modifyPort s p f).travel = s.travel := rfl
@[simp] theorem modifyPort_preview : (modifyPort s p f).preview = s.preview := rfl
@[simp] theorem modifyPort_timer : (modifyPort s p f).timer = s.timer := rfl
@[simp] theorem modifyPort_wheels : (modifyPort s p f).wheels = s.wheels := rfl
@[simp] theorem modifyPort_params : (modifyPort s p f).params = s.params := rfl
@[simp] theorem modifyPort_map : (modifyPort s p f).map = s.map := rfl
@[simp] theorem modifyPort_store : (modifyPort s p f).store = s.store := rfl
@[simp] theorem modifyPort_errors : (modifyPort s p f).errors = s.errors := rfl
@[simp] theorem modifyPort_pending : (modifyPort s p f).pending = s.pending := rfl
end modifyPort

section modifyPorts
variable (s : State) (f : Port → PortState → PortState)
@[simp] theorem modifyPorts_inReset : (modifyPorts s f).inReset = s.inReset := rfl
@[simp] theorem modifyPorts_mode : (modifyPorts s f).mode = s.mode := rfl
@[simp] theorem modifyPorts_safeLow : (modifyPorts s f).safeLow = s.safeLow := rfl
@[simp] theorem modifyPorts_calEn : (modifyPorts s f).calEn = s.calEn := rfl
@[simp] theorem modifyPorts_msCount : (modifyPorts s f).msCount = s.msCount := rfl
@[simp] theorem modifyPorts_demands : (modifyPorts s f).demands = s.demands := rfl
@[simp] theorem modifyPorts_travel : (modifyPorts s f).travel = s.travel := rfl
@[simp] theorem modifyPorts_preview : (modifyPorts s f).preview = s.preview := rfl
@[simp] theorem modifyPorts_timer : (modifyPorts s f).timer = s.timer := rfl
@[simp] theorem modifyPorts_wheels : (modifyPorts s f).wheels = s.wheels := rfl
@[simp] theorem modifyPorts_params : (modifyPorts s f).params = s.params := rfl
@[simp] theorem modifyPorts_map : (modifyPorts s f).map = s.map := rfl
@[simp] theorem modifyPorts_store : (modifyPorts s f).store = s.store := rfl
@[simp] theorem modifyPorts_errors : (modifyPorts s f).errors = s.errors := rfl
@[simp] theorem modifyPorts_pending : (modifyPorts s f).pending = s.pending := rfl
end modifyPorts

section modifyWheel
variable (s : State) (w : Wheel) (f : WheelRecord → WheelRecord)
@[simp] theorem modifyWheel_inReset : (modifyWheel s w f).inReset = s.inReset := rfl
@[simp] theorem modifyWheel_mode : (modifyWheel s w f).mode = s.mode := rfl
@[simp] theorem modifyWheel_safeLow : (modifyWheel s w f).safeLow = s.safeLow := rfl
@[simp] theorem modifyWheel_calEn : (modifyWheel s w f).calEn = s.calEn := rfl
@[simp] theorem modifyWheel_msCount : (modifyWheel s w f).msCount = s.msCount := rfl
@[simp] theorem modifyWheel_ports : (modifyWheel s w f).ports = s.ports := rfl
@[simp] theorem modifyWheel_demands : (modifyWheel s w f).demands = s.demands := rfl
@[simp] theorem modifyWheel_travel : (modifyWheel s w f).travel = s.travel := rfl
@[simp] theorem modifyWheel_preview : (modifyWheel s w f).preview = s.preview := rfl
@[simp] theorem modifyWheel_timer : (modifyWheel s w f).timer = s.timer := rfl
@[simp] theorem modifyWheel_params : (modifyWheel s w f).params = s.params := rfl
@[simp] theorem modifyWheel_map : (modifyWheel s w f).map = s.map := rfl
@[simp] theorem modifyWheel_store : (modifyWheel s w f).store = s.store := rfl
@[simp] theorem modifyWheel_errors : (modifyWheel s w f).errors = s.errors := rfl
@[simp] theorem modifyWheel_pending : (modifyWheel s w f).pending = s.pending := rfl
end modifyWheel

section setDemand
variable (s : State) (w : Wheel) (src : Source) (r : Option DemandRecord)
@[simp] theorem setDemand_inReset : (setDemand s w src r).inReset = s.inReset := rfl
@[simp] theorem setDemand_mode : (setDemand s w src r).mode = s.mode := rfl
@[simp] theorem setDemand_safeLow : (setDemand s w src r).safeLow = s.safeLow := rfl
@[simp] theorem setDemand_calEn : (setDemand s w src r).calEn = s.calEn := rfl
@[simp] theorem setDemand_msCount : (setDemand s w src r).msCount = s.msCount := rfl
@[simp] theorem setDemand_ports : (setDemand s w src r).ports = s.ports := rfl
@[simp] theorem setDemand_travel : (setDemand s w src r).travel = s.travel := rfl
@[simp] theorem setDemand_preview : (setDemand s w src r).preview = s.preview := rfl
@[simp] theorem setDemand_timer : (setDemand s w src r).timer = s.timer := rfl
@[simp] theorem setDemand_wheels : (setDemand s w src r).wheels = s.wheels := rfl
@[simp] theorem setDemand_params : (setDemand s w src r).params = s.params := rfl
@[simp] theorem setDemand_map : (setDemand s w src r).map = s.map := rfl
@[simp] theorem setDemand_store : (setDemand s w src r).store = s.store := rfl
@[simp] theorem setDemand_errors : (setDemand s w src r).errors = s.errors := rfl
@[simp] theorem setDemand_pending : (setDemand s w src r).pending = s.pending := rfl
end setDemand

section setNamedDemands
variable (s : State) (m : BitVec 4) (src : Source) (r : Option DemandRecord)
@[simp] theorem setNamedDemands_inReset : (setNamedDemands s m src r).inReset = s.inReset := rfl
@[simp] theorem setNamedDemands_mode : (setNamedDemands s m src r).mode = s.mode := rfl
@[simp] theorem setNamedDemands_safeLow : (setNamedDemands s m src r).safeLow = s.safeLow := rfl
@[simp] theorem setNamedDemands_calEn : (setNamedDemands s m src r).calEn = s.calEn := rfl
@[simp] theorem setNamedDemands_msCount : (setNamedDemands s m src r).msCount = s.msCount := rfl
@[simp] theorem setNamedDemands_ports : (setNamedDemands s m src r).ports = s.ports := rfl
@[simp] theorem setNamedDemands_travel : (setNamedDemands s m src r).travel = s.travel := rfl
@[simp] theorem setNamedDemands_preview : (setNamedDemands s m src r).preview = s.preview := rfl
@[simp] theorem setNamedDemands_timer : (setNamedDemands s m src r).timer = s.timer := rfl
@[simp] theorem setNamedDemands_wheels : (setNamedDemands s m src r).wheels = s.wheels := rfl
@[simp] theorem setNamedDemands_params : (setNamedDemands s m src r).params = s.params := rfl
@[simp] theorem setNamedDemands_map : (setNamedDemands s m src r).map = s.map := rfl
@[simp] theorem setNamedDemands_store : (setNamedDemands s m src r).store = s.store := rfl
@[simp] theorem setNamedDemands_errors : (setNamedDemands s m src r).errors = s.errors := rfl
@[simp] theorem setNamedDemands_pending : (setNamedDemands s m src r).pending = s.pending := rfl
end setNamedDemands

section emptyDemands
variable (s : State)
@[simp] theorem emptyDemands_inReset : (emptyDemands s).inReset = s.inReset := rfl
@[simp] theorem emptyDemands_mode : (emptyDemands s).mode = s.mode := rfl
@[simp] theorem emptyDemands_safeLow : (emptyDemands s).safeLow = s.safeLow := rfl
@[simp] theorem emptyDemands_calEn : (emptyDemands s).calEn = s.calEn := rfl
@[simp] theorem emptyDemands_msCount : (emptyDemands s).msCount = s.msCount := rfl
@[simp] theorem emptyDemands_ports : (emptyDemands s).ports = s.ports := rfl
@[simp] theorem emptyDemands_travel : (emptyDemands s).travel = s.travel := rfl
@[simp] theorem emptyDemands_preview : (emptyDemands s).preview = s.preview := rfl
@[simp] theorem emptyDemands_timer : (emptyDemands s).timer = s.timer := rfl
@[simp] theorem emptyDemands_wheels : (emptyDemands s).wheels = s.wheels := rfl
@[simp] theorem emptyDemands_params : (emptyDemands s).params = s.params := rfl
@[simp] theorem emptyDemands_map : (emptyDemands s).map = s.map := rfl
@[simp] theorem emptyDemands_store : (emptyDemands s).store = s.store := rfl
@[simp] theorem emptyDemands_errors : (emptyDemands s).errors = s.errors := rfl
@[simp] theorem emptyDemands_pending : (emptyDemands s).pending = s.pending := rfl
end emptyDemands

section emptyQueues
variable (s : State)
@[simp] theorem emptyQueues_inReset : (emptyQueues s).inReset = s.inReset := rfl
@[simp] theorem emptyQueues_mode : (emptyQueues s).mode = s.mode := rfl
@[simp] theorem emptyQueues_safeLow : (emptyQueues s).safeLow = s.safeLow := rfl
@[simp] theorem emptyQueues_calEn : (emptyQueues s).calEn = s.calEn := rfl
@[simp] theorem emptyQueues_msCount : (emptyQueues s).msCount = s.msCount := rfl
@[simp] theorem emptyQueues_ports : (emptyQueues s).ports = s.ports := rfl
@[simp] theorem emptyQueues_demands : (emptyQueues s).demands = s.demands := rfl
@[simp] theorem emptyQueues_travel : (emptyQueues s).travel = s.travel := rfl
@[simp] theorem emptyQueues_timer : (emptyQueues s).timer = s.timer := rfl
@[simp] theorem emptyQueues_wheels : (emptyQueues s).wheels = s.wheels := rfl
@[simp] theorem emptyQueues_params : (emptyQueues s).params = s.params := rfl
@[simp] theorem emptyQueues_map : (emptyQueues s).map = s.map := rfl
@[simp] theorem emptyQueues_store : (emptyQueues s).store = s.store := rfl
@[simp] theorem emptyQueues_errors : (emptyQueues s).errors = s.errors := rfl
@[simp] theorem emptyQueues_pending : (emptyQueues s).pending = s.pending := rfl
end emptyQueues

section setSlot
variable (s : State) (k : Fin 8) (x : MapSlot)
@[simp] theorem setSlot_inReset : (setSlot s k x).inReset = s.inReset := rfl
@[simp] theorem setSlot_mode : (setSlot s k x).mode = s.mode := rfl
@[simp] theorem setSlot_safeLow : (setSlot s k x).safeLow = s.safeLow := rfl
@[simp] theorem setSlot_calEn : (setSlot s k x).calEn = s.calEn := rfl
@[simp] theorem setSlot_msCount : (setSlot s k x).msCount = s.msCount := rfl
@[simp] theorem setSlot_ports : (setSlot s k x).ports = s.ports := rfl
@[simp] theorem setSlot_demands : (setSlot s k x).demands = s.demands := rfl
@[simp] theorem setSlot_travel : (setSlot s k x).travel = s.travel := rfl
@[simp] theorem setSlot_preview : (setSlot s k x).preview = s.preview := rfl
@[simp] theorem setSlot_timer : (setSlot s k x).timer = s.timer := rfl
@[simp] theorem setSlot_wheels : (setSlot s k x).wheels = s.wheels := rfl
@[simp] theorem setSlot_params : (setSlot s k x).params = s.params := rfl
@[simp] theorem setSlot_store : (setSlot s k x).store = s.store := rfl
@[simp] theorem setSlot_errors : (setSlot s k x).errors = s.errors := rfl
@[simp] theorem setSlot_pending : (setSlot s k x).pending = s.pending := rfl
end setSlot

section setBank
variable (s : State) (b : Fin 2) (x : OverlayBank)
@[simp] theorem setBank_inReset : (setBank s b x).inReset = s.inReset := rfl
@[simp] theorem setBank_mode : (setBank s b x).mode = s.mode := rfl
@[simp] theorem setBank_safeLow : (setBank s b x).safeLow = s.safeLow := rfl
@[simp] theorem setBank_calEn : (setBank s b x).calEn = s.calEn := rfl
@[simp] theorem setBank_msCount : (setBank s b x).msCount = s.msCount := rfl
@[simp] theorem setBank_ports : (setBank s b x).ports = s.ports := rfl
@[simp] theorem setBank_demands : (setBank s b x).demands = s.demands := rfl
@[simp] theorem setBank_travel : (setBank s b x).travel = s.travel := rfl
@[simp] theorem setBank_preview : (setBank s b x).preview = s.preview := rfl
@[simp] theorem setBank_timer : (setBank s b x).timer = s.timer := rfl
@[simp] theorem setBank_wheels : (setBank s b x).wheels = s.wheels := rfl
@[simp] theorem setBank_params : (setBank s b x).params = s.params := rfl
@[simp] theorem setBank_store : (setBank s b x).store = s.store := rfl
@[simp] theorem setBank_errors : (setBank s b x).errors = s.errors := rfl
@[simp] theorem setBank_pending : (setBank s b x).pending = s.pending := rfl
end setBank

section unbindBanks
variable (s : State)
@[simp] theorem unbindBanks_inReset : (unbindBanks s).inReset = s.inReset := rfl
@[simp] theorem unbindBanks_mode : (unbindBanks s).mode = s.mode := rfl
@[simp] theorem unbindBanks_safeLow : (unbindBanks s).safeLow = s.safeLow := rfl
@[simp] theorem unbindBanks_calEn : (unbindBanks s).calEn = s.calEn := rfl
@[simp] theorem unbindBanks_msCount : (unbindBanks s).msCount = s.msCount := rfl
@[simp] theorem unbindBanks_ports : (unbindBanks s).ports = s.ports := rfl
@[simp] theorem unbindBanks_demands : (unbindBanks s).demands = s.demands := rfl
@[simp] theorem unbindBanks_travel : (unbindBanks s).travel = s.travel := rfl
@[simp] theorem unbindBanks_preview : (unbindBanks s).preview = s.preview := rfl
@[simp] theorem unbindBanks_timer : (unbindBanks s).timer = s.timer := rfl
@[simp] theorem unbindBanks_wheels : (unbindBanks s).wheels = s.wheels := rfl
@[simp] theorem unbindBanks_params : (unbindBanks s).params = s.params := rfl
@[simp] theorem unbindBanks_store : (unbindBanks s).store = s.store := rfl
@[simp] theorem unbindBanks_errors : (unbindBanks s).errors = s.errors := rfl
@[simp] theorem unbindBanks_pending : (unbindBanks s).pending = s.pending := rfl
end unbindBanks

section setErrorBank
variable (s : State) (k : BankId) (r : ErrorRecord)
@[simp] theorem setErrorBank_inReset : (setErrorBank s k r).inReset = s.inReset := by cases k <;> rfl
@[simp] theorem setErrorBank_mode : (setErrorBank s k r).mode = s.mode := by cases k <;> rfl
@[simp] theorem setErrorBank_safeLow : (setErrorBank s k r).safeLow = s.safeLow := by cases k <;> rfl
@[simp] theorem setErrorBank_calEn : (setErrorBank s k r).calEn = s.calEn := by cases k <;> rfl
@[simp] theorem setErrorBank_msCount : (setErrorBank s k r).msCount = s.msCount := by cases k <;> rfl
@[simp] theorem setErrorBank_ports : (setErrorBank s k r).ports = s.ports := by cases k <;> rfl
@[simp] theorem setErrorBank_demands : (setErrorBank s k r).demands = s.demands := by cases k <;> rfl
@[simp] theorem setErrorBank_travel : (setErrorBank s k r).travel = s.travel := by cases k <;> rfl
@[simp] theorem setErrorBank_preview : (setErrorBank s k r).preview = s.preview := by cases k <;> rfl
@[simp] theorem setErrorBank_timer : (setErrorBank s k r).timer = s.timer := by cases k <;> rfl
@[simp] theorem setErrorBank_wheels : (setErrorBank s k r).wheels = s.wheels := by cases k <;> rfl
@[simp] theorem setErrorBank_params : (setErrorBank s k r).params = s.params := by cases k <;> rfl
@[simp] theorem setErrorBank_map : (setErrorBank s k r).map = s.map := by cases k <;> rfl
@[simp] theorem setErrorBank_store : (setErrorBank s k r).store = s.store := by cases k <;> rfl
@[simp] theorem setErrorBank_pending : (setErrorBank s k r).pending = s.pending := by cases k <;> rfl
end setErrorBank

section raiseAt
variable (s : State) (e : EdgeCause) (p : Port)
@[simp] theorem raiseAt_inReset : (raiseAt s e p).inReset = s.inReset := rfl
@[simp] theorem raiseAt_mode : (raiseAt s e p).mode = s.mode := rfl
@[simp] theorem raiseAt_safeLow : (raiseAt s e p).safeLow = s.safeLow := rfl
@[simp] theorem raiseAt_calEn : (raiseAt s e p).calEn = s.calEn := rfl
@[simp] theorem raiseAt_msCount : (raiseAt s e p).msCount = s.msCount := rfl
@[simp] theorem raiseAt_demands : (raiseAt s e p).demands = s.demands := rfl
@[simp] theorem raiseAt_travel : (raiseAt s e p).travel = s.travel := rfl
@[simp] theorem raiseAt_preview : (raiseAt s e p).preview = s.preview := rfl
@[simp] theorem raiseAt_timer : (raiseAt s e p).timer = s.timer := rfl
@[simp] theorem raiseAt_wheels : (raiseAt s e p).wheels = s.wheels := rfl
@[simp] theorem raiseAt_params : (raiseAt s e p).params = s.params := rfl
@[simp] theorem raiseAt_map : (raiseAt s e p).map = s.map := rfl
@[simp] theorem raiseAt_store : (raiseAt s e p).store = s.store := rfl
@[simp] theorem raiseAt_errors : (raiseAt s e p).errors = s.errors := rfl
@[simp] theorem raiseAt_pending : (raiseAt s e p).pending = s.pending := rfl
end raiseAt

section raiseEverywhere
variable (s : State) (e : EdgeCause)
@[simp] theorem raiseEverywhere_inReset : (raiseEverywhere s e).inReset = s.inReset := rfl
@[simp] theorem raiseEverywhere_mode : (raiseEverywhere s e).mode = s.mode := rfl
@[simp] theorem raiseEverywhere_safeLow : (raiseEverywhere s e).safeLow = s.safeLow := rfl
@[simp] theorem raiseEverywhere_calEn : (raiseEverywhere s e).calEn = s.calEn := rfl
@[simp] theorem raiseEverywhere_msCount : (raiseEverywhere s e).msCount = s.msCount := rfl
@[simp] theorem raiseEverywhere_demands : (raiseEverywhere s e).demands = s.demands := rfl
@[simp] theorem raiseEverywhere_travel : (raiseEverywhere s e).travel = s.travel := rfl
@[simp] theorem raiseEverywhere_preview : (raiseEverywhere s e).preview = s.preview := rfl
@[simp] theorem raiseEverywhere_timer : (raiseEverywhere s e).timer = s.timer := rfl
@[simp] theorem raiseEverywhere_wheels : (raiseEverywhere s e).wheels = s.wheels := rfl
@[simp] theorem raiseEverywhere_params : (raiseEverywhere s e).params = s.params := rfl
@[simp] theorem raiseEverywhere_map : (raiseEverywhere s e).map = s.map := rfl
@[simp] theorem raiseEverywhere_store : (raiseEverywhere s e).store = s.store := rfl
@[simp] theorem raiseEverywhere_errors : (raiseEverywhere s e).errors = s.errors := rfl
@[simp] theorem raiseEverywhere_pending : (raiseEverywhere s e).pending = s.pending := rfl
end raiseEverywhere

section raiseAtOthers
variable (s : State) (e : EdgeCause) (p : Port)
@[simp] theorem raiseAtOthers_inReset : (raiseAtOthers s e p).inReset = s.inReset := rfl
@[simp] theorem raiseAtOthers_mode : (raiseAtOthers s e p).mode = s.mode := rfl
@[simp] theorem raiseAtOthers_safeLow : (raiseAtOthers s e p).safeLow = s.safeLow := rfl
@[simp] theorem raiseAtOthers_calEn : (raiseAtOthers s e p).calEn = s.calEn := rfl
@[simp] theorem raiseAtOthers_msCount : (raiseAtOthers s e p).msCount = s.msCount := rfl
@[simp] theorem raiseAtOthers_demands : (raiseAtOthers s e p).demands = s.demands := rfl
@[simp] theorem raiseAtOthers_travel : (raiseAtOthers s e p).travel = s.travel := rfl
@[simp] theorem raiseAtOthers_preview : (raiseAtOthers s e p).preview = s.preview := rfl
@[simp] theorem raiseAtOthers_timer : (raiseAtOthers s e p).timer = s.timer := rfl
@[simp] theorem raiseAtOthers_wheels : (raiseAtOthers s e p).wheels = s.wheels := rfl
@[simp] theorem raiseAtOthers_params : (raiseAtOthers s e p).params = s.params := rfl
@[simp] theorem raiseAtOthers_map : (raiseAtOthers s e p).map = s.map := rfl
@[simp] theorem raiseAtOthers_store : (raiseAtOthers s e p).store = s.store := rfl
@[simp] theorem raiseAtOthers_errors : (raiseAtOthers s e p).errors = s.errors := rfl
@[simp] theorem raiseAtOthers_pending : (raiseAtOthers s e p).pending = s.pending := rfl
end raiseAtOthers

section raiseAtRole
variable (s : State) (e : EdgeCause) (r : Role)
@[simp] theorem raiseAtRole_inReset : (raiseAtRole s e r).inReset = s.inReset := by unfold raiseAtRole; split <;> rfl
@[simp] theorem raiseAtRole_mode : (raiseAtRole s e r).mode = s.mode := by unfold raiseAtRole; split <;> rfl
@[simp] theorem raiseAtRole_safeLow : (raiseAtRole s e r).safeLow = s.safeLow := by unfold raiseAtRole; split <;> rfl
@[simp] theorem raiseAtRole_calEn : (raiseAtRole s e r).calEn = s.calEn := by unfold raiseAtRole; split <;> rfl
@[simp] theorem raiseAtRole_msCount : (raiseAtRole s e r).msCount = s.msCount := by unfold raiseAtRole; split <;> rfl
@[simp] theorem raiseAtRole_demands : (raiseAtRole s e r).demands = s.demands := by unfold raiseAtRole; split <;> rfl
@[simp] theorem raiseAtRole_travel : (raiseAtRole s e r).travel = s.travel := by unfold raiseAtRole; split <;> rfl
@[simp] theorem raiseAtRole_preview : (raiseAtRole s e r).preview = s.preview := by unfold raiseAtRole; split <;> rfl
@[simp] theorem raiseAtRole_timer : (raiseAtRole s e r).timer = s.timer := by unfold raiseAtRole; split <;> rfl
@[simp] theorem raiseAtRole_wheels : (raiseAtRole s e r).wheels = s.wheels := by unfold raiseAtRole; split <;> rfl
@[simp] theorem raiseAtRole_params : (raiseAtRole s e r).params = s.params := by unfold raiseAtRole; split <;> rfl
@[simp] theorem raiseAtRole_map : (raiseAtRole s e r).map = s.map := by unfold raiseAtRole; split <;> rfl
@[simp] theorem raiseAtRole_store : (raiseAtRole s e r).store = s.store := by unfold raiseAtRole; split <;> rfl
@[simp] theorem raiseAtRole_errors : (raiseAtRole s e r).errors = s.errors := by unfold raiseAtRole; split <;> rfl
@[simp] theorem raiseAtRole_pending : (raiseAtRole s e r).pending = s.pending := by unfold raiseAtRole; split <;> rfl
end raiseAtRole

section logError
variable (s : State) (k : BankId) (c : ErrorCode) (i : Option Nat)
@[simp] theorem logError_inReset : (logError s k c i).inReset = s.inReset := by simp [logError]
@[simp] theorem logError_mode : (logError s k c i).mode = s.mode := by simp [logError]
@[simp] theorem logError_safeLow : (logError s k c i).safeLow = s.safeLow := by simp [logError]
@[simp] theorem logError_calEn : (logError s k c i).calEn = s.calEn := by simp [logError]
@[simp] theorem logError_msCount : (logError s k c i).msCount = s.msCount := by simp [logError]
@[simp] theorem logError_demands : (logError s k c i).demands = s.demands := by simp [logError]
@[simp] theorem logError_travel : (logError s k c i).travel = s.travel := by simp [logError]
@[simp] theorem logError_preview : (logError s k c i).preview = s.preview := by simp [logError]
@[simp] theorem logError_timer : (logError s k c i).timer = s.timer := by simp [logError]
@[simp] theorem logError_wheels : (logError s k c i).wheels = s.wheels := by simp [logError]
@[simp] theorem logError_params : (logError s k c i).params = s.params := by simp [logError]
@[simp] theorem logError_map : (logError s k c i).map = s.map := by simp [logError]
@[simp] theorem logError_store : (logError s k c i).store = s.store := by simp [logError]
@[simp] theorem logError_pending : (logError s k c i).pending = s.pending := by simp [logError]
end logError

section acknowledge
variable (s : State) (p : Port) (c : Cause)
@[simp] theorem acknowledge_inReset : (acknowledge s p c).inReset = s.inReset := by cases c <;> rfl
@[simp] theorem acknowledge_mode : (acknowledge s p c).mode = s.mode := by cases c <;> rfl
@[simp] theorem acknowledge_safeLow : (acknowledge s p c).safeLow = s.safeLow := by cases c <;> rfl
@[simp] theorem acknowledge_calEn : (acknowledge s p c).calEn = s.calEn := by cases c <;> rfl
@[simp] theorem acknowledge_msCount : (acknowledge s p c).msCount = s.msCount := by cases c <;> rfl
@[simp] theorem acknowledge_demands : (acknowledge s p c).demands = s.demands := by cases c <;> rfl
@[simp] theorem acknowledge_travel : (acknowledge s p c).travel = s.travel := by cases c <;> rfl
@[simp] theorem acknowledge_preview : (acknowledge s p c).preview = s.preview := by cases c <;> rfl
@[simp] theorem acknowledge_timer : (acknowledge s p c).timer = s.timer := by cases c <;> rfl
@[simp] theorem acknowledge_wheels : (acknowledge s p c).wheels = s.wheels := by cases c <;> rfl
@[simp] theorem acknowledge_params : (acknowledge s p c).params = s.params := by cases c <;> rfl
@[simp] theorem acknowledge_map : (acknowledge s p c).map = s.map := by cases c <;> rfl
@[simp] theorem acknowledge_store : (acknowledge s p c).store = s.store := by cases c <;> rfl
@[simp] theorem acknowledge_errors : (acknowledge s p c).errors = s.errors := by cases c <;> rfl
@[simp] theorem acknowledge_pending : (acknowledge s p c).pending = s.pending := by cases c <;> rfl
end acknowledge

section settleMarks
variable (b s : State)
@[simp] theorem settleMarks_inReset : (settleMarks b s).inReset = s.inReset := rfl
@[simp] theorem settleMarks_mode : (settleMarks b s).mode = s.mode := rfl
@[simp] theorem settleMarks_safeLow : (settleMarks b s).safeLow = s.safeLow := rfl
@[simp] theorem settleMarks_calEn : (settleMarks b s).calEn = s.calEn := rfl
@[simp] theorem settleMarks_msCount : (settleMarks b s).msCount = s.msCount := rfl
@[simp] theorem settleMarks_demands : (settleMarks b s).demands = s.demands := rfl
@[simp] theorem settleMarks_travel : (settleMarks b s).travel = s.travel := rfl
@[simp] theorem settleMarks_preview : (settleMarks b s).preview = s.preview := rfl
@[simp] theorem settleMarks_timer : (settleMarks b s).timer = s.timer := rfl
@[simp] theorem settleMarks_wheels : (settleMarks b s).wheels = s.wheels := rfl
@[simp] theorem settleMarks_params : (settleMarks b s).params = s.params := rfl
@[simp] theorem settleMarks_map : (settleMarks b s).map = s.map := rfl
@[simp] theorem settleMarks_store : (settleMarks b s).store = s.store := rfl
@[simp] theorem settleMarks_errors : (settleMarks b s).errors = s.errors := rfl
@[simp] theorem settleMarks_pending : (settleMarks b s).pending = s.pending := rfl
end settleMarks

section makeLive
variable (s : State) (p : Port)
@[simp] theorem makeLive_inReset : (makeLive s p).inReset = s.inReset := rfl
@[simp] theorem makeLive_mode : (makeLive s p).mode = s.mode := rfl
@[simp] theorem makeLive_safeLow : (makeLive s p).safeLow = s.safeLow := rfl
@[simp] theorem makeLive_calEn : (makeLive s p).calEn = s.calEn := rfl
@[simp] theorem makeLive_msCount : (makeLive s p).msCount = s.msCount := rfl
@[simp] theorem makeLive_demands : (makeLive s p).demands = s.demands := rfl
@[simp] theorem makeLive_travel : (makeLive s p).travel = s.travel := rfl
@[simp] theorem makeLive_preview : (makeLive s p).preview = s.preview := rfl
@[simp] theorem makeLive_timer : (makeLive s p).timer = s.timer := rfl
@[simp] theorem makeLive_wheels : (makeLive s p).wheels = s.wheels := rfl
@[simp] theorem makeLive_params : (makeLive s p).params = s.params := rfl
@[simp] theorem makeLive_map : (makeLive s p).map = s.map := rfl
@[simp] theorem makeLive_store : (makeLive s p).store = s.store := rfl
@[simp] theorem makeLive_errors : (makeLive s p).errors = s.errors := rfl
@[simp] theorem makeLive_pending : (makeLive s p).pending = s.pending := rfl
end makeLive

section dropTransaction
variable (s : State) (p : Port)
@[simp] theorem dropTransaction_inReset : (dropTransaction s p).inReset = s.inReset := rfl
@[simp] theorem dropTransaction_mode : (dropTransaction s p).mode = s.mode := rfl
@[simp] theorem dropTransaction_safeLow : (dropTransaction s p).safeLow = s.safeLow := rfl
@[simp] theorem dropTransaction_calEn : (dropTransaction s p).calEn = s.calEn := rfl
@[simp] theorem dropTransaction_msCount : (dropTransaction s p).msCount = s.msCount := rfl
@[simp] theorem dropTransaction_demands : (dropTransaction s p).demands = s.demands := rfl
@[simp] theorem dropTransaction_travel : (dropTransaction s p).travel = s.travel := rfl
@[simp] theorem dropTransaction_preview : (dropTransaction s p).preview = s.preview := rfl
@[simp] theorem dropTransaction_timer : (dropTransaction s p).timer = s.timer := rfl
@[simp] theorem dropTransaction_wheels : (dropTransaction s p).wheels = s.wheels := rfl
@[simp] theorem dropTransaction_params : (dropTransaction s p).params = s.params := rfl
@[simp] theorem dropTransaction_map : (dropTransaction s p).map = s.map := rfl
@[simp] theorem dropTransaction_store : (dropTransaction s p).store = s.store := rfl
@[simp] theorem dropTransaction_errors : (dropTransaction s p).errors = s.errors := rfl
@[simp] theorem dropTransaction_pending : (dropTransaction s p).pending = s.pending := rfl
end dropTransaction

section advancePointer
variable (s : State) (p : Port)
@[simp] theorem advancePointer_inReset : (advancePointer s p).inReset = s.inReset := rfl
@[simp] theorem advancePointer_mode : (advancePointer s p).mode = s.mode := rfl
@[simp] theorem advancePointer_safeLow : (advancePointer s p).safeLow = s.safeLow := rfl
@[simp] theorem advancePointer_calEn : (advancePointer s p).calEn = s.calEn := rfl
@[simp] theorem advancePointer_msCount : (advancePointer s p).msCount = s.msCount := rfl
@[simp] theorem advancePointer_demands : (advancePointer s p).demands = s.demands := rfl
@[simp] theorem advancePointer_travel : (advancePointer s p).travel = s.travel := rfl
@[simp] theorem advancePointer_preview : (advancePointer s p).preview = s.preview := rfl
@[simp] theorem advancePointer_timer : (advancePointer s p).timer = s.timer := rfl
@[simp] theorem advancePointer_wheels : (advancePointer s p).wheels = s.wheels := rfl
@[simp] theorem advancePointer_params : (advancePointer s p).params = s.params := rfl
@[simp] theorem advancePointer_map : (advancePointer s p).map = s.map := rfl
@[simp] theorem advancePointer_store : (advancePointer s p).store = s.store := rfl
@[simp] theorem advancePointer_errors : (advancePointer s p).errors = s.errors := rfl
@[simp] theorem advancePointer_pending : (advancePointer s p).pending = s.pending := rfl
end advancePointer

section pointerStep
variable (c : Command) (s : State) (p : Port)
@[simp] theorem pointerStep_inReset : (pointerStep c s p).inReset = s.inReset := by unfold pointerStep; split <;> rfl
@[simp] theorem pointerStep_mode : (pointerStep c s p).mode = s.mode := by unfold pointerStep; split <;> rfl
@[simp] theorem pointerStep_safeLow : (pointerStep c s p).safeLow = s.safeLow := by unfold pointerStep; split <;> rfl
@[simp] theorem pointerStep_calEn : (pointerStep c s p).calEn = s.calEn := by unfold pointerStep; split <;> rfl
@[simp] theorem pointerStep_msCount : (pointerStep c s p).msCount = s.msCount := by unfold pointerStep; split <;> rfl
@[simp] theorem pointerStep_demands : (pointerStep c s p).demands = s.demands := by unfold pointerStep; split <;> rfl
@[simp] theorem pointerStep_travel : (pointerStep c s p).travel = s.travel := by unfold pointerStep; split <;> rfl
@[simp] theorem pointerStep_preview : (pointerStep c s p).preview = s.preview := by unfold pointerStep; split <;> rfl
@[simp] theorem pointerStep_timer : (pointerStep c s p).timer = s.timer := by unfold pointerStep; split <;> rfl
@[simp] theorem pointerStep_wheels : (pointerStep c s p).wheels = s.wheels := by unfold pointerStep; split <;> rfl
@[simp] theorem pointerStep_params : (pointerStep c s p).params = s.params := by unfold pointerStep; split <;> rfl
@[simp] theorem pointerStep_map : (pointerStep c s p).map = s.map := by unfold pointerStep; split <;> rfl
@[simp] theorem pointerStep_store : (pointerStep c s p).store = s.store := by unfold pointerStep; split <;> rfl
@[simp] theorem pointerStep_errors : (pointerStep c s p).errors = s.errors := by unfold pointerStep; split <;> rfl
@[simp] theorem pointerStep_pending : (pointerStep c s p).pending = s.pending := by unfold pointerStep; split <;> rfl
end pointerStep

section restartLink
variable (s : State) (p : Port)
@[simp] theorem restartLink_inReset : (restartLink s p).inReset = s.inReset := rfl
@[simp] theorem restartLink_mode : (restartLink s p).mode = s.mode := rfl
@[simp] theorem restartLink_safeLow : (restartLink s p).safeLow = s.safeLow := rfl
@[simp] theorem restartLink_calEn : (restartLink s p).calEn = s.calEn := rfl
@[simp] theorem restartLink_msCount : (restartLink s p).msCount = s.msCount := rfl
@[simp] theorem restartLink_demands : (restartLink s p).demands = s.demands := rfl
@[simp] theorem restartLink_travel : (restartLink s p).travel = s.travel := rfl
@[simp] theorem restartLink_preview : (restartLink s p).preview = s.preview := rfl
@[simp] theorem restartLink_timer : (restartLink s p).timer = s.timer := rfl
@[simp] theorem restartLink_wheels : (restartLink s p).wheels = s.wheels := rfl
@[simp] theorem restartLink_params : (restartLink s p).params = s.params := rfl
@[simp] theorem restartLink_map : (restartLink s p).map = s.map := rfl
@[simp] theorem restartLink_store : (restartLink s p).store = s.store := rfl
@[simp] theorem restartLink_errors : (restartLink s p).errors = s.errors := rfl
@[simp] theorem restartLink_pending : (restartLink s p).pending = s.pending := rfl
end restartLink

section respond
variable (s : State) (p : Port) (g : BitVec 3) (st : Status) (d : BitVec 16)
@[simp] theorem respond_inReset : (respond s p g st d).inReset = s.inReset := rfl
@[simp] theorem respond_mode : (respond s p g st d).mode = s.mode := rfl
@[simp] theorem respond_safeLow : (respond s p g st d).safeLow = s.safeLow := rfl
@[simp] theorem respond_calEn : (respond s p g st d).calEn = s.calEn := rfl
@[simp] theorem respond_msCount : (respond s p g st d).msCount = s.msCount := rfl
@[simp] theorem respond_demands : (respond s p g st d).demands = s.demands := rfl
@[simp] theorem respond_travel : (respond s p g st d).travel = s.travel := rfl
@[simp] theorem respond_preview : (respond s p g st d).preview = s.preview := rfl
@[simp] theorem respond_timer : (respond s p g st d).timer = s.timer := rfl
@[simp] theorem respond_wheels : (respond s p g st d).wheels = s.wheels := rfl
@[simp] theorem respond_params : (respond s p g st d).params = s.params := rfl
@[simp] theorem respond_map : (respond s p g st d).map = s.map := rfl
@[simp] theorem respond_store : (respond s p g st d).store = s.store := rfl
@[simp] theorem respond_errors : (respond s p g st d).errors = s.errors := rfl
@[simp] theorem respond_pending : (respond s p g st d).pending = s.pending := rfl
end respond

section modifyStaging
variable (s : State) (p : Port) (f : Staging → Staging)
@[simp] theorem modifyStaging_inReset : (modifyStaging s p f).inReset = s.inReset := rfl
@[simp] theorem modifyStaging_mode : (modifyStaging s p f).mode = s.mode := rfl
@[simp] theorem modifyStaging_safeLow : (modifyStaging s p f).safeLow = s.safeLow := rfl
@[simp] theorem modifyStaging_calEn : (modifyStaging s p f).calEn = s.calEn := rfl
@[simp] theorem modifyStaging_msCount : (modifyStaging s p f).msCount = s.msCount := rfl
@[simp] theorem modifyStaging_demands : (modifyStaging s p f).demands = s.demands := rfl
@[simp] theorem modifyStaging_travel : (modifyStaging s p f).travel = s.travel := rfl
@[simp] theorem modifyStaging_preview : (modifyStaging s p f).preview = s.preview := rfl
@[simp] theorem modifyStaging_timer : (modifyStaging s p f).timer = s.timer := rfl
@[simp] theorem modifyStaging_wheels : (modifyStaging s p f).wheels = s.wheels := rfl
@[simp] theorem modifyStaging_params : (modifyStaging s p f).params = s.params := rfl
@[simp] theorem modifyStaging_map : (modifyStaging s p f).map = s.map := rfl
@[simp] theorem modifyStaging_store : (modifyStaging s p f).store = s.store := rfl
@[simp] theorem modifyStaging_errors : (modifyStaging s p f).errors = s.errors := rfl
@[simp] theorem modifyStaging_pending : (modifyStaging s p f).pending = s.pending := rfl
end modifyStaging

section silencePort
variable (p : Port) (s : State)
@[simp] theorem silencePort_inReset : (silencePort p s).inReset = s.inReset := rfl
@[simp] theorem silencePort_mode : (silencePort p s).mode = s.mode := rfl
@[simp] theorem silencePort_safeLow : (silencePort p s).safeLow = s.safeLow := rfl
@[simp] theorem silencePort_calEn : (silencePort p s).calEn = s.calEn := rfl
@[simp] theorem silencePort_msCount : (silencePort p s).msCount = s.msCount := rfl
@[simp] theorem silencePort_demands : (silencePort p s).demands = s.demands := rfl
@[simp] theorem silencePort_travel : (silencePort p s).travel = s.travel := rfl
@[simp] theorem silencePort_preview : (silencePort p s).preview = s.preview := rfl
@[simp] theorem silencePort_timer : (silencePort p s).timer = s.timer := rfl
@[simp] theorem silencePort_wheels : (silencePort p s).wheels = s.wheels := rfl
@[simp] theorem silencePort_params : (silencePort p s).params = s.params := rfl
@[simp] theorem silencePort_map : (silencePort p s).map = s.map := rfl
@[simp] theorem silencePort_store : (silencePort p s).store = s.store := rfl
@[simp] theorem silencePort_errors : (silencePort p s).errors = s.errors := rfl
@[simp] theorem silencePort_pending : (silencePort p s).pending = s.pending := rfl
end silencePort

section removeOrigin
variable (p : Port) (s : State)
@[simp] theorem removeOrigin_inReset : (removeOrigin p s).inReset = s.inReset := rfl
@[simp] theorem removeOrigin_mode : (removeOrigin p s).mode = s.mode := rfl
@[simp] theorem removeOrigin_safeLow : (removeOrigin p s).safeLow = s.safeLow := rfl
@[simp] theorem removeOrigin_calEn : (removeOrigin p s).calEn = s.calEn := rfl
@[simp] theorem removeOrigin_msCount : (removeOrigin p s).msCount = s.msCount := rfl
@[simp] theorem removeOrigin_ports : (removeOrigin p s).ports = s.ports := rfl
@[simp] theorem removeOrigin_travel : (removeOrigin p s).travel = s.travel := rfl
@[simp] theorem removeOrigin_preview : (removeOrigin p s).preview = s.preview := rfl
@[simp] theorem removeOrigin_timer : (removeOrigin p s).timer = s.timer := rfl
@[simp] theorem removeOrigin_wheels : (removeOrigin p s).wheels = s.wheels := rfl
@[simp] theorem removeOrigin_params : (removeOrigin p s).params = s.params := rfl
@[simp] theorem removeOrigin_map : (removeOrigin p s).map = s.map := rfl
@[simp] theorem removeOrigin_store : (removeOrigin p s).store = s.store := rfl
@[simp] theorem removeOrigin_errors : (removeOrigin p s).errors = s.errors := rfl
@[simp] theorem removeOrigin_pending : (removeOrigin p s).pending = s.pending := rfl
end removeOrigin

section logSample
variable (s : State) (w : Wheel) (c : Nat) (k : Stroke)
@[simp] theorem logSample_inReset : (logSample s w c k).inReset = s.inReset := by unfold logSample; split <;> [rfl; (split <;> simp)]
@[simp] theorem logSample_mode : (logSample s w c k).mode = s.mode := by unfold logSample; split <;> [rfl; (split <;> simp)]
@[simp] theorem logSample_safeLow : (logSample s w c k).safeLow = s.safeLow := by unfold logSample; split <;> [rfl; (split <;> simp)]
@[simp] theorem logSample_calEn : (logSample s w c k).calEn = s.calEn := by unfold logSample; split <;> [rfl; (split <;> simp)]
@[simp] theorem logSample_msCount : (logSample s w c k).msCount = s.msCount := by unfold logSample; split <;> [rfl; (split <;> simp)]
@[simp] theorem logSample_demands : (logSample s w c k).demands = s.demands := by unfold logSample; split <;> [rfl; (split <;> simp)]
@[simp] theorem logSample_travel : (logSample s w c k).travel = s.travel := by unfold logSample; split <;> [rfl; (split <;> simp)]
@[simp] theorem logSample_preview : (logSample s w c k).preview = s.preview := by unfold logSample; split <;> [rfl; (split <;> simp)]
@[simp] theorem logSample_timer : (logSample s w c k).timer = s.timer := by unfold logSample; split <;> [rfl; (split <;> simp)]
@[simp] theorem logSample_wheels : (logSample s w c k).wheels = s.wheels := by unfold logSample; split <;> [rfl; (split <;> simp)]
@[simp] theorem logSample_params : (logSample s w c k).params = s.params := by unfold logSample; split <;> [rfl; (split <;> simp)]
@[simp] theorem logSample_map : (logSample s w c k).map = s.map := by unfold logSample; split <;> [rfl; (split <;> simp)]
@[simp] theorem logSample_store : (logSample s w c k).store = s.store := by unfold logSample; split <;> [rfl; (split <;> simp)]
@[simp] theorem logSample_pending : (logSample s w c k).pending = s.pending := by unfold logSample; split <;> [rfl; (split <;> simp)]
end logSample

section logRegulation
variable (s : State) (w : Wheel) (r : WheelRecord)
@[simp] theorem logRegulation_inReset : (logRegulation s w r).inReset = s.inReset := by unfold logRegulation; split <;> simp
@[simp] theorem logRegulation_mode : (logRegulation s w r).mode = s.mode := by unfold logRegulation; split <;> simp
@[simp] theorem logRegulation_safeLow : (logRegulation s w r).safeLow = s.safeLow := by unfold logRegulation; split <;> simp
@[simp] theorem logRegulation_calEn : (logRegulation s w r).calEn = s.calEn := by unfold logRegulation; split <;> simp
@[simp] theorem logRegulation_msCount : (logRegulation s w r).msCount = s.msCount := by unfold logRegulation; split <;> simp
@[simp] theorem logRegulation_demands : (logRegulation s w r).demands = s.demands := by unfold logRegulation; split <;> simp
@[simp] theorem logRegulation_travel : (logRegulation s w r).travel = s.travel := by unfold logRegulation; split <;> simp
@[simp] theorem logRegulation_preview : (logRegulation s w r).preview = s.preview := by unfold logRegulation; split <;> simp
@[simp] theorem logRegulation_timer : (logRegulation s w r).timer = s.timer := by unfold logRegulation; split <;> simp
@[simp] theorem logRegulation_wheels : (logRegulation s w r).wheels = s.wheels := by unfold logRegulation; split <;> simp
@[simp] theorem logRegulation_params : (logRegulation s w r).params = s.params := by unfold logRegulation; split <;> simp
@[simp] theorem logRegulation_map : (logRegulation s w r).map = s.map := by unfold logRegulation; split <;> simp
@[simp] theorem logRegulation_store : (logRegulation s w r).store = s.store := by unfold logRegulation; split <;> simp
@[simp] theorem logRegulation_pending : (logRegulation s w r).pending = s.pending := by unfold logRegulation; split <;> simp
end logRegulation

section wheelsOff
variable (s : State)
@[simp] theorem wheelsOff_inReset : (wheelsOff s).inReset = s.inReset := rfl
@[simp] theorem wheelsOff_mode : (wheelsOff s).mode = s.mode := rfl
@[simp] theorem wheelsOff_safeLow : (wheelsOff s).safeLow = s.safeLow := rfl
@[simp] theorem wheelsOff_calEn : (wheelsOff s).calEn = s.calEn := rfl
@[simp] theorem wheelsOff_msCount : (wheelsOff s).msCount = s.msCount := rfl
@[simp] theorem wheelsOff_demands : (wheelsOff s).demands = s.demands := rfl
@[simp] theorem wheelsOff_travel : (wheelsOff s).travel = s.travel := rfl
@[simp] theorem wheelsOff_preview : (wheelsOff s).preview = s.preview := rfl
@[simp] theorem wheelsOff_timer : (wheelsOff s).timer = s.timer := rfl
@[simp] theorem wheelsOff_params : (wheelsOff s).params = s.params := rfl
@[simp] theorem wheelsOff_map : (wheelsOff s).map = s.map := rfl
@[simp] theorem wheelsOff_store : (wheelsOff s).store = s.store := rfl
@[simp] theorem wheelsOff_errors : (wheelsOff s).errors = s.errors := rfl
@[simp] theorem wheelsOff_pending : (wheelsOff s).pending = s.pending := rfl
end wheelsOff

section unprimeFor
variable (k : Param) (s : State)
@[simp] theorem unprimeFor_inReset : (unprimeFor k s).inReset = s.inReset := by cases k <;> rfl
@[simp] theorem unprimeFor_mode : (unprimeFor k s).mode = s.mode := by cases k <;> rfl
@[simp] theorem unprimeFor_safeLow : (unprimeFor k s).safeLow = s.safeLow := by cases k <;> rfl
@[simp] theorem unprimeFor_calEn : (unprimeFor k s).calEn = s.calEn := by cases k <;> rfl
@[simp] theorem unprimeFor_msCount : (unprimeFor k s).msCount = s.msCount := by cases k <;> rfl
@[simp] theorem unprimeFor_ports : (unprimeFor k s).ports = s.ports := by cases k <;> rfl
@[simp] theorem unprimeFor_demands : (unprimeFor k s).demands = s.demands := by cases k <;> rfl
@[simp] theorem unprimeFor_travel : (unprimeFor k s).travel = s.travel := by cases k <;> rfl
@[simp] theorem unprimeFor_preview : (unprimeFor k s).preview = s.preview := by cases k <;> rfl
@[simp] theorem unprimeFor_timer : (unprimeFor k s).timer = s.timer := by cases k <;> rfl
@[simp] theorem unprimeFor_params : (unprimeFor k s).params = s.params := by cases k <;> rfl
@[simp] theorem unprimeFor_map : (unprimeFor k s).map = s.map := by cases k <;> rfl
@[simp] theorem unprimeFor_store : (unprimeFor k s).store = s.store := by cases k <;> rfl
@[simp] theorem unprimeFor_errors : (unprimeFor k s).errors = s.errors := by cases k <;> rfl
@[simp] theorem unprimeFor_pending : (unprimeFor k s).pending = s.pending := by cases k <;> rfl
end unprimeFor

section storeParam
variable (k : Param) (v : Int) (s : State)
@[simp] theorem storeParam_inReset : (storeParam k v s).inReset = s.inReset := by simp [storeParam]
@[simp] theorem storeParam_mode : (storeParam k v s).mode = s.mode := by simp [storeParam]
@[simp] theorem storeParam_safeLow : (storeParam k v s).safeLow = s.safeLow := by simp [storeParam]
@[simp] theorem storeParam_calEn : (storeParam k v s).calEn = s.calEn := by simp [storeParam]
@[simp] theorem storeParam_msCount : (storeParam k v s).msCount = s.msCount := by simp [storeParam]
@[simp] theorem storeParam_ports : (storeParam k v s).ports = s.ports := by simp [storeParam]
@[simp] theorem storeParam_demands : (storeParam k v s).demands = s.demands := by simp [storeParam]
@[simp] theorem storeParam_travel : (storeParam k v s).travel = s.travel := by simp [storeParam]
@[simp] theorem storeParam_preview : (storeParam k v s).preview = s.preview := by simp [storeParam]
@[simp] theorem storeParam_timer : (storeParam k v s).timer = s.timer := by simp [storeParam]
@[simp] theorem storeParam_map : (storeParam k v s).map = s.map := by simp [storeParam]
@[simp] theorem storeParam_store : (storeParam k v s).store = s.store := by simp [storeParam]
@[simp] theorem storeParam_errors : (storeParam k v s).errors = s.errors := by simp [storeParam]
@[simp] theorem storeParam_pending : (storeParam k v s).pending = s.pending := by simp [storeParam]
end storeParam

section clearLatchOf
variable (k : BankId) (s : State)
@[simp] theorem clearLatchOf_inReset : (clearLatchOf k s).inReset = s.inReset := by cases k <;> rfl
@[simp] theorem clearLatchOf_mode : (clearLatchOf k s).mode = s.mode := by cases k <;> rfl
@[simp] theorem clearLatchOf_safeLow : (clearLatchOf k s).safeLow = s.safeLow := by cases k <;> rfl
@[simp] theorem clearLatchOf_calEn : (clearLatchOf k s).calEn = s.calEn := by cases k <;> rfl
@[simp] theorem clearLatchOf_msCount : (clearLatchOf k s).msCount = s.msCount := by cases k <;> rfl
@[simp] theorem clearLatchOf_ports : (clearLatchOf k s).ports = s.ports := by cases k <;> rfl
@[simp] theorem clearLatchOf_demands : (clearLatchOf k s).demands = s.demands := by cases k <;> rfl
@[simp] theorem clearLatchOf_travel : (clearLatchOf k s).travel = s.travel := by cases k <;> rfl
@[simp] theorem clearLatchOf_preview : (clearLatchOf k s).preview = s.preview := by cases k <;> rfl
@[simp] theorem clearLatchOf_timer : (clearLatchOf k s).timer = s.timer := by cases k <;> rfl
@[simp] theorem clearLatchOf_params : (clearLatchOf k s).params = s.params := by cases k <;> rfl
@[simp] theorem clearLatchOf_map : (clearLatchOf k s).map = s.map := by cases k <;> rfl
@[simp] theorem clearLatchOf_store : (clearLatchOf k s).store = s.store := by cases k <;> rfl
@[simp] theorem clearLatchOf_errors : (clearLatchOf k s).errors = s.errors := by cases k <;> rfl
@[simp] theorem clearLatchOf_pending : (clearLatchOf k s).pending = s.pending := by cases k <;> rfl
end clearLatchOf

section setImage
variable (s : State) (c : Capture) (g : Bool)
@[simp] theorem setImage_inReset : (setImage s c g).inReset = s.inReset := by cases c <;> rfl
@[simp] theorem setImage_mode : (setImage s c g).mode = s.mode := by cases c <;> rfl
@[simp] theorem setImage_safeLow : (setImage s c g).safeLow = s.safeLow := by cases c <;> rfl
@[simp] theorem setImage_calEn : (setImage s c g).calEn = s.calEn := by cases c <;> rfl
@[simp] theorem setImage_msCount : (setImage s c g).msCount = s.msCount := by cases c <;> rfl
@[simp] theorem setImage_ports : (setImage s c g).ports = s.ports := by cases c <;> rfl
@[simp] theorem setImage_demands : (setImage s c g).demands = s.demands := by cases c <;> rfl
@[simp] theorem setImage_travel : (setImage s c g).travel = s.travel := by cases c <;> rfl
@[simp] theorem setImage_preview : (setImage s c g).preview = s.preview := by cases c <;> rfl
@[simp] theorem setImage_timer : (setImage s c g).timer = s.timer := by cases c <;> rfl
@[simp] theorem setImage_wheels : (setImage s c g).wheels = s.wheels := by cases c <;> rfl
@[simp] theorem setImage_params : (setImage s c g).params = s.params := by cases c <;> rfl
@[simp] theorem setImage_map : (setImage s c g).map = s.map := by cases c <;> rfl
@[simp] theorem setImage_errors : (setImage s c g).errors = s.errors := by cases c <;> rfl
@[simp] theorem setImage_pending : (setImage s c g).pending = s.pending := by cases c <;> rfl
end setImage

section endOperation
variable (s : State) (o : Operation) (st : StoreStatus)
@[simp] theorem endOperation_inReset : (endOperation s o st).inReset = s.inReset := rfl
@[simp] theorem endOperation_mode : (endOperation s o st).mode = s.mode := rfl
@[simp] theorem endOperation_safeLow : (endOperation s o st).safeLow = s.safeLow := rfl
@[simp] theorem endOperation_calEn : (endOperation s o st).calEn = s.calEn := rfl
@[simp] theorem endOperation_msCount : (endOperation s o st).msCount = s.msCount := rfl
@[simp] theorem endOperation_demands : (endOperation s o st).demands = s.demands := rfl
@[simp] theorem endOperation_travel : (endOperation s o st).travel = s.travel := rfl
@[simp] theorem endOperation_preview : (endOperation s o st).preview = s.preview := rfl
@[simp] theorem endOperation_timer : (endOperation s o st).timer = s.timer := rfl
@[simp] theorem endOperation_wheels : (endOperation s o st).wheels = s.wheels := rfl
@[simp] theorem endOperation_params : (endOperation s o st).params = s.params := rfl
@[simp] theorem endOperation_map : (endOperation s o st).map = s.map := rfl
@[simp] theorem endOperation_errors : (endOperation s o st).errors = s.errors := rfl
@[simp] theorem endOperation_pending : (endOperation s o st).pending = s.pending := rfl
end endOperation

section abortOperation
variable (s : State) (o : Operation)
@[simp] theorem abortOperation_inReset : (abortOperation s o).inReset = s.inReset := by simp [abortOperation]
@[simp] theorem abortOperation_mode : (abortOperation s o).mode = s.mode := by simp [abortOperation]
@[simp] theorem abortOperation_safeLow : (abortOperation s o).safeLow = s.safeLow := by simp [abortOperation]
@[simp] theorem abortOperation_calEn : (abortOperation s o).calEn = s.calEn := by simp [abortOperation]
@[simp] theorem abortOperation_msCount : (abortOperation s o).msCount = s.msCount := by simp [abortOperation]
@[simp] theorem abortOperation_demands : (abortOperation s o).demands = s.demands := by simp [abortOperation]
@[simp] theorem abortOperation_travel : (abortOperation s o).travel = s.travel := by simp [abortOperation]
@[simp] theorem abortOperation_preview : (abortOperation s o).preview = s.preview := by simp [abortOperation]
@[simp] theorem abortOperation_timer : (abortOperation s o).timer = s.timer := by simp [abortOperation]
@[simp] theorem abortOperation_wheels : (abortOperation s o).wheels = s.wheels := by simp [abortOperation]
@[simp] theorem abortOperation_params : (abortOperation s o).params = s.params := by simp [abortOperation]
@[simp] theorem abortOperation_map : (abortOperation s o).map = s.map := by simp [abortOperation]
@[simp] theorem abortOperation_pending : (abortOperation s o).pending = s.pending := by simp [abortOperation]
end abortOperation

section abortInFlight
variable (s : State)
@[simp] theorem abortInFlight_inReset : (abortInFlight s).inReset = s.inReset := by unfold abortInFlight; split <;> simp
@[simp] theorem abortInFlight_mode : (abortInFlight s).mode = s.mode := by unfold abortInFlight; split <;> simp
@[simp] theorem abortInFlight_safeLow : (abortInFlight s).safeLow = s.safeLow := by unfold abortInFlight; split <;> simp
@[simp] theorem abortInFlight_calEn : (abortInFlight s).calEn = s.calEn := by unfold abortInFlight; split <;> simp
@[simp] theorem abortInFlight_msCount : (abortInFlight s).msCount = s.msCount := by unfold abortInFlight; split <;> simp
@[simp] theorem abortInFlight_demands : (abortInFlight s).demands = s.demands := by unfold abortInFlight; split <;> simp
@[simp] theorem abortInFlight_travel : (abortInFlight s).travel = s.travel := by unfold abortInFlight; split <;> simp
@[simp] theorem abortInFlight_preview : (abortInFlight s).preview = s.preview := by unfold abortInFlight; split <;> simp
@[simp] theorem abortInFlight_timer : (abortInFlight s).timer = s.timer := by unfold abortInFlight; split <;> simp
@[simp] theorem abortInFlight_wheels : (abortInFlight s).wheels = s.wheels := by unfold abortInFlight; split <;> simp
@[simp] theorem abortInFlight_params : (abortInFlight s).params = s.params := by unfold abortInFlight; split <;> simp
@[simp] theorem abortInFlight_map : (abortInFlight s).map = s.map := by unfold abortInFlight; split <;> simp
@[simp] theorem abortInFlight_pending : (abortInFlight s).pending = s.pending := by unfold abortInFlight; split <;> simp
end abortInFlight

section loadNext
variable (s : State) (l : Option LoadStep)
@[simp] theorem loadNext_inReset : (loadNext s l).inReset = s.inReset := rfl
@[simp] theorem loadNext_mode : (loadNext s l).mode = s.mode := rfl
@[simp] theorem loadNext_safeLow : (loadNext s l).safeLow = s.safeLow := rfl
@[simp] theorem loadNext_calEn : (loadNext s l).calEn = s.calEn := rfl
@[simp] theorem loadNext_msCount : (loadNext s l).msCount = s.msCount := rfl
@[simp] theorem loadNext_ports : (loadNext s l).ports = s.ports := rfl
@[simp] theorem loadNext_demands : (loadNext s l).demands = s.demands := rfl
@[simp] theorem loadNext_travel : (loadNext s l).travel = s.travel := rfl
@[simp] theorem loadNext_preview : (loadNext s l).preview = s.preview := rfl
@[simp] theorem loadNext_timer : (loadNext s l).timer = s.timer := rfl
@[simp] theorem loadNext_wheels : (loadNext s l).wheels = s.wheels := rfl
@[simp] theorem loadNext_params : (loadNext s l).params = s.params := rfl
@[simp] theorem loadNext_map : (loadNext s l).map = s.map := rfl
@[simp] theorem loadNext_errors : (loadNext s l).errors = s.errors := rfl
@[simp] theorem loadNext_pending : (loadNext s l).pending = s.pending := rfl
end loadNext

section changeMode
variable (s : State) (m : Mode)
@[simp] theorem changeMode_inReset : (changeMode s m).inReset = s.inReset := rfl
@[simp] theorem changeMode_safeLow : (changeMode s m).safeLow = s.safeLow := rfl
@[simp] theorem changeMode_calEn : (changeMode s m).calEn = s.calEn := rfl
@[simp] theorem changeMode_msCount : (changeMode s m).msCount = s.msCount := rfl
@[simp] theorem changeMode_demands : (changeMode s m).demands = s.demands := rfl
@[simp] theorem changeMode_travel : (changeMode s m).travel = s.travel := rfl
@[simp] theorem changeMode_preview : (changeMode s m).preview = s.preview := rfl
@[simp] theorem changeMode_timer : (changeMode s m).timer = s.timer := rfl
@[simp] theorem changeMode_wheels : (changeMode s m).wheels = s.wheels := rfl
@[simp] theorem changeMode_params : (changeMode s m).params = s.params := rfl
@[simp] theorem changeMode_map : (changeMode s m).map = s.map := rfl
@[simp] theorem changeMode_store : (changeMode s m).store = s.store := rfl
@[simp] theorem changeMode_errors : (changeMode s m).errors = s.errors := rfl
@[simp] theorem changeMode_pending : (changeMode s m).pending = s.pending := rfl
end changeMode

section stopTimer
variable (s : State)
@[simp] theorem stopTimer_inReset : (stopTimer s).inReset = s.inReset := rfl
@[simp] theorem stopTimer_mode : (stopTimer s).mode = s.mode := rfl
@[simp] theorem stopTimer_safeLow : (stopTimer s).safeLow = s.safeLow := rfl
@[simp] theorem stopTimer_calEn : (stopTimer s).calEn = s.calEn := rfl
@[simp] theorem stopTimer_msCount : (stopTimer s).msCount = s.msCount := rfl
@[simp] theorem stopTimer_ports : (stopTimer s).ports = s.ports := rfl
@[simp] theorem stopTimer_demands : (stopTimer s).demands = s.demands := rfl
@[simp] theorem stopTimer_travel : (stopTimer s).travel = s.travel := rfl
@[simp] theorem stopTimer_preview : (stopTimer s).preview = s.preview := rfl
@[simp] theorem stopTimer_wheels : (stopTimer s).wheels = s.wheels := rfl
@[simp] theorem stopTimer_params : (stopTimer s).params = s.params := rfl
@[simp] theorem stopTimer_map : (stopTimer s).map = s.map := rfl
@[simp] theorem stopTimer_store : (stopTimer s).store = s.store := rfl
@[simp] theorem stopTimer_errors : (stopTimer s).errors = s.errors := rfl
@[simp] theorem stopTimer_pending : (stopTimer s).pending = s.pending := rfl
end stopTimer

section stopLinks
variable (s : State)
@[simp] theorem stopLinks_inReset : (stopLinks s).inReset = s.inReset := rfl
@[simp] theorem stopLinks_mode : (stopLinks s).mode = s.mode := rfl
@[simp] theorem stopLinks_safeLow : (stopLinks s).safeLow = s.safeLow := rfl
@[simp] theorem stopLinks_calEn : (stopLinks s).calEn = s.calEn := rfl
@[simp] theorem stopLinks_msCount : (stopLinks s).msCount = s.msCount := rfl
@[simp] theorem stopLinks_demands : (stopLinks s).demands = s.demands := rfl
@[simp] theorem stopLinks_travel : (stopLinks s).travel = s.travel := rfl
@[simp] theorem stopLinks_preview : (stopLinks s).preview = s.preview := rfl
@[simp] theorem stopLinks_timer : (stopLinks s).timer = s.timer := rfl
@[simp] theorem stopLinks_wheels : (stopLinks s).wheels = s.wheels := rfl
@[simp] theorem stopLinks_params : (stopLinks s).params = s.params := rfl
@[simp] theorem stopLinks_map : (stopLinks s).map = s.map := rfl
@[simp] theorem stopLinks_store : (stopLinks s).store = s.store := rfl
@[simp] theorem stopLinks_errors : (stopLinks s).errors = s.errors := rfl
@[simp] theorem stopLinks_pending : (stopLinks s).pending = s.pending := rfl
end stopLinks

section startTimer
variable (s : State)
@[simp] theorem startTimer_inReset : (startTimer s).inReset = s.inReset := rfl
@[simp] theorem startTimer_mode : (startTimer s).mode = s.mode := rfl
@[simp] theorem startTimer_safeLow : (startTimer s).safeLow = s.safeLow := rfl
@[simp] theorem startTimer_calEn : (startTimer s).calEn = s.calEn := rfl
@[simp] theorem startTimer_msCount : (startTimer s).msCount = s.msCount := rfl
@[simp] theorem startTimer_ports : (startTimer s).ports = s.ports := rfl
@[simp] theorem startTimer_demands : (startTimer s).demands = s.demands := rfl
@[simp] theorem startTimer_travel : (startTimer s).travel = s.travel := rfl
@[simp] theorem startTimer_preview : (startTimer s).preview = s.preview := rfl
@[simp] theorem startTimer_wheels : (startTimer s).wheels = s.wheels := rfl
@[simp] theorem startTimer_params : (startTimer s).params = s.params := rfl
@[simp] theorem startTimer_map : (startTimer s).map = s.map := rfl
@[simp] theorem startTimer_store : (startTimer s).store = s.store := rfl
@[simp] theorem startTimer_errors : (startTimer s).errors = s.errors := rfl
@[simp] theorem startTimer_pending : (startTimer s).pending = s.pending := rfl
end startTimer

end Sys2Proof.Machine
end

