-- ==== Sys2Proof/Laws/Frames.lean ====
section
/-! SUPPORT. What the shared operations do, said once: ports, notices, errors, wheels, and the taking of a frame. -/

namespace Sys2Proof.Machine

section Reads

@[simp] theorem portOf_modifyPort_self (s : State) (p : Port) (f : PortState → PortState) :
    portOf (modifyPort s p f) p = f (portOf s p) := by simp [portOf, modifyPort]

theorem portOf_modifyPort_ne (s : State) {p q : Port} (f : PortState → PortState) (h : q ≠ p) :
    portOf (modifyPort s p f) q = portOf s q := by simp [portOf, modifyPort, PerPort.get_modify_ne _ _ h]

theorem portOf_modifyPort (s : State) (p q : Port) (f : PortState → PortState) :
    portOf (modifyPort s p f) q = if q = p then f (portOf s q) else portOf s q := by
  simp [portOf, modifyPort, PerPort.get_modify]

@[simp] theorem portOf_modifyPorts (s : State) (f : Port → PortState → PortState) (p : Port) :
    portOf (modifyPorts s f) p = f p (portOf s p) := by simp [portOf, modifyPorts]

theorem wheelOf_modifyWheel (s : State) (w u : Wheel) (f : WheelRecord → WheelRecord) :
    wheelOf (modifyWheel s w f) u = if u = w then f (wheelOf s u) else wheelOf s u := by
  simp [wheelOf, modifyWheel, PerWheel.get_modify]

@[simp] theorem wheelOf_modifyWheel_self (s : State) (w : Wheel) (f : WheelRecord → WheelRecord) :
    wheelOf (modifyWheel s w f) w = f (wheelOf s w) := by simp [wheelOf_modifyWheel]

theorem positionOf_setPosition (d : DemandPair) (a b : Source) (r : Option DemandRecord) :
    positionOf (setPosition d a r) b = if b = a then r else positionOf d b := by
  cases a <;> cases b <;> rfl

theorem demandOf_setDemand (s : State) (w u : Wheel) (a b : Source) (r : Option DemandRecord) :
    demandOf (setDemand s w a r) u b = if u = w ∧ b = a then r else demandOf s u b := by
  simp only [demandOf, setDemand, PerWheel.get_modify]
  by_cases h : u = w <;> simp [h, positionOf_setPosition]

theorem demandOf_setNamedDemands (s : State) (m : BitVec 4) (u : Wheel) (a b : Source) (r : Option DemandRecord) :
    demandOf (setNamedDemands s m a r) u b = if namesWheel m u = true ∧ b = a then r else demandOf s u b := by
  simp only [demandOf, setNamedDemands, PerWheel.get_mapWith]
  by_cases h : namesWheel m u = true <;> simp [h, positionOf_setPosition]

@[simp] theorem demandOf_emptyDemands (s : State) (w : Wheel) (src : Source) :
    demandOf (emptyDemands s) w src = none := by
  cases src <;> simp [demandOf, emptyDemands, positionOf]

theorem slotOf_setSlot (s : State) (k j : Fin 8) (x : MapSlot) :
    slotOf (setSlot s k x) j = if j = k then x else slotOf s j := by
  simp only [slotOf, setSlot, Fin.getElem_fin, Vector.getElem_set]
  by_cases h : j = k
  · subst h; simp
  · have : ¬ k.val = j.val := fun e => h (Fin.ext e.symm)
    simp [h, this]

theorem bankOf_setBank (s : State) (b c : Fin 2) (x : OverlayBank) :
    bankOf (setBank s b x) c = if c = b then x else bankOf s c := by
  simp only [bankOf, setBank, Fin.getElem_fin, Vector.getElem_set]
  by_cases h : c = b
  · subst h; simp
  · have : ¬ b.val = c.val := fun e => h (Fin.ext e.symm)
    simp [h, this]

@[simp] theorem bankOf_unbindBanks (s : State) (b : Fin 2) :
    bankOf (unbindBanks s) b = { bankOf s b with binding := none } := by
  simp [bankOf, unbindBanks]

theorem errorBank_setErrorBank (s : State) (k j : BankId) (r : ErrorRecord) :
    errorBank (setErrorBank s k r) j = if j = k then r else errorBank s j := by
  cases k <;> cases j <;> simp [errorBank, setErrorBank, PerWheel.get_set]

theorem getParam_putParam (ps : Params) (k j : Param) (v : Int) :
    getParam (putParam ps k v) j = if paramIndex j = paramIndex k then v else getParam ps j := by
  simp only [getParam, putParam, Vector.getElem_set]
  by_cases h : paramIndex j = paramIndex k
  · simp [h]
  · have : ¬ paramIndex k = paramIndex j := fun e => h e.symm
    simp [h, this]

end Reads

section Holders

/-- A port that `holder` names holds the role. -/
theorem role_of_holder {s : State} {r : Role} {p : Port} (h : holder s r = some p) : (portOf s p).role = r := by
  have := List.find?_some h
  simpa using this

/-- Where no port holds a role, `holder` names none. -/
theorem holder_none {s : State} {r : Role} (h : holder s r = none) (p : Port) : (portOf s p).role ≠ r := by
  have := List.find?_eq_none.mp h p (Port.mem_all p)
  simpa using this

/-- `holder` reads the roles alone. -/
theorem holder_congr {s t : State} (h : ∀ p, (portOf s p).role = (portOf t p).role) (r : Role) :
    holder s r = holder t r := by simp [holder, h]

end Holders

section Raising

/-- The other fields of a port are kept when a cause is raised at it. -/
theorem portOf_raiseAt (s : State) (e : EdgeCause) (p q : Port) :
    portOf (raiseAt s e p) q =
      if q = p then { portOf s q with edges := setEdge (portOf s q).edges e true } else portOf s q := by
  simp [raiseAt, portOf_modifyPort]

/-- Raising a cause at a role touches no port but its edge set there. -/
theorem portOf_raiseAtRole (s : State) (e : EdgeCause) (r : Role) (q : Port) :
    portOf (raiseAtRole s e r) q =
      if holder s r = some q then { portOf s q with edges := setEdge (portOf s q).edges e true } else portOf s q := by
  unfold raiseAtRole
  cases h : holder s r with
  | none => simp
  | some p =>
    simp only [portOf_raiseAt, Option.some.injEq]
    by_cases hq : q = p
    · subst hq; simp
    · have : ¬ p = q := fun e => hq e.symm
      simp [hq, this]

@[simp] theorem portOf_raiseEverywhere (s : State) (e : EdgeCause) (q : Port) :
    portOf (raiseEverywhere s e) q = { portOf s q with edges := setEdge (portOf s q).edges e true } := by
  simp [raiseEverywhere]

@[simp] theorem setEdge_in_self (x : EdgeSet) (e : EdgeCause) (v : Bool) : edgeIn (setEdge x e v) e = v := by
  cases e <;> rfl

theorem setEdge_in_ne (x : EdgeSet) {e f : EdgeCause} (v : Bool) (h : f ≠ e) :
    edgeIn (setEdge x e v) f = edgeIn x f := by
  cases e <;> cases f <;> first | rfl | exact absurd rfl h

/-- The bank an error arrives at, and every other bank (R151). -/
theorem errorBank_logError (s : State) (k j : BankId) (c : ErrorCode) (i : Option Nat) :
    errorBank (logError s k c i) j = if j = k then takeError (errorBank s k) c i else errorBank s j := by
  have : errorBank (logError s k c i) j = errorBank (setErrorBank s k (takeError (errorBank s k) c i)) j := by
    cases j <;> simp [errorBank, logError]
  rw [this, errorBank_setErrorBank]

/-- A port after an error has arrived: BANK_LOGGED pending at the RIDE port, nothing else (R151). -/
theorem portOf_logError (s : State) (k : BankId) (c : ErrorCode) (i : Option Nat) (q : Port) :
    portOf (logError s k c i) q =
      if holder s .ride = some q then { portOf s q with edges := setEdge (portOf s q).edges .bankLogged true }
      else portOf s q := by
  have hp : ∀ p, portOf (setErrorBank s k (takeError (errorBank s k) c i)) p = portOf s p := fun p => by
    simp [portOf]
  have hh : holder (setErrorBank s k (takeError (errorBank s k) c i)) .ride = holder s .ride :=
    holder_congr (fun p => by rw [hp]) _
  rw [logError, portOf_raiseAtRole, hh, hp]

/-- A bank that holds an uncorrected error keeps it through an arrival (R151). -/
theorem takeError_uncorrected {b : ErrorRecord} (hv : b.valid = true) (hu : b.uncorrected = true) (c : ErrorCode)
    (i : Option Nat) : takeError b c i = { b with overflow := true } := by
  simp [takeError, hv, hu]

/-- After any arrival the bank is VALID (R151). -/
@[simp] theorem takeError_valid (b : ErrorRecord) (c : ErrorCode) (i : Option Nat) : (takeError b c i).valid = true := by
  unfold takeError
  split
  · simp_all
  · rfl

end Raising

section Alerts

/-- The ALERT line reads the mode, the wheel states, and the port's pending edges and mask alone (R148). -/
theorem alertOf_congr {s t : State} {p : Port} (hm : s.mode = t.mode) (hw : s.wheels = t.wheels)
    (he : (portOf s p).edges = (portOf t p).edges) (hk : (portOf s p).noticeMask = (portOf t p).noticeMask) :
    alertOf s p = alertOf t p := by
  have hwo : ∀ w, wheelOf s w = wheelOf t w := fun w => by simp only [wheelOf, hw]
  have hl : ∀ l, levelHolds s l = levelHolds t l := fun l => by
    cases l <;> simp only [levelHolds, someWheelIn, hwo, hm]
  simp only [alertOf, hk]
  congr 1
  funext c
  cases c <;> simp [isPending, hl, he]

end Alerts

section Frame

/-- A transaction that is not taken only ends (R130). -/
theorem takeFrame_dropped {h : Header} {c : Command} {owner : State → Answer} {s : State}
    (ht : takesTransaction s h.port = false) : takeFrame h c owner s = dropTransaction s h.port := by
  simp [takeFrame, ht]

variable {h : Header} {c : Command} {owner : State → Answer} {s : State}

/-- A taken frame outside its port: what the owner left (R134). -/
theorem takeFrame_fields (ht : takesTransaction s h.port = true) :
    let a := judge (makeLive s h.port) h.port c owner
    let t := takeFrame h c owner s
    t.inReset = a.state.inReset ∧ t.mode = a.state.mode ∧ t.safeLow = a.state.safeLow ∧ t.calEn = a.state.calEn ∧
      t.msCount = a.state.msCount ∧ t.demands = a.state.demands ∧ t.travel = a.state.travel ∧
      t.preview = a.state.preview ∧ t.timer = a.state.timer ∧ t.wheels = a.state.wheels ∧
      t.params = a.state.params ∧ t.map = a.state.map ∧ t.store = a.state.store ∧ t.errors = a.state.errors ∧
      t.pending = a.state.pending := by
  simp [takeFrame, ht]

/-- A taken frame leaves the other ports as the owner left them (R134). -/
theorem takeFrame_other (ht : takesTransaction s h.port = true) {q : Port} (hq : q ≠ h.port) :
    portOf (takeFrame h c owner s) q = portOf (judge (makeLive s h.port) h.port c owner).state q := by
  simp only [takeFrame, ht, if_true, respond, restartLink, portOf_modifyPort_ne _ _ hq]
  unfold pointerStep
  split
  · simp [advancePointer, portOf_modifyPort_ne _ _ hq]
  · rfl

/-- A taken frame at its own port: pointer, link timer, response, end of the transaction (R131, R134, R137, R141). -/
theorem takeFrame_self (ht : takesTransaction s h.port = true) :
    portOf (takeFrame h c owner s) h.port =
      let a := judge (makeLive s h.port) h.port c owner
      let x := portOf a.state h.port
      { x with
        pointer := if c = .put ∨ c = .get then x.pointer + 1 else x.pointer
        linkTimer := restartedLink a.state h.port
        response := ⟨a.status, h.tag, alertOf a.state h.port, a.data⟩
        transaction := .idle } := by
  simp only [takeFrame, ht, if_true]
  generalize judge (makeLive s h.port) h.port c owner = a
  have hal : alertOf (restartLink (pointerStep c a.state h.port) h.port) h.port = alertOf a.state h.port := by
    apply alertOf_congr <;> simp [restartLink, pointerStep] <;> split <;> simp [advancePointer]
  have hlt : restartedLink (pointerStep c a.state h.port) h.port = restartedLink a.state h.port := by
    have hp : (portOf (pointerStep c a.state h.port) h.port).linkTimer = (portOf a.state h.port).linkTimer := by
      unfold pointerStep; split <;> simp [advancePointer]
    unfold restartedLink
    simp only [pointerStep_mode, param, pointerStep_params, pointerStep_msCount]
    rw [hp]
    rfl
  simp only [respond, portOf_modifyPort_self, hal]
  simp only [restartLink, portOf_modifyPort_self, hlt]
  unfold pointerStep
  split <;> simp [advancePointer, *]

/-- Acceptance that refuses leaves the state it judged (R136). -/
theorem judge_refused {s : State} {p : Port} (ha : admitted s p c = false) :
    judge s p c owner = refuseWith s .notPermitted := by simp [judge, ha]

/-- Acceptance that admits hands the frame to the owner (R134). -/
theorem judge_admitted {s : State} {p : Port} (ha : admitted s p c = true) : judge s p c owner = owner s := by
  simp [judge, ha]

/-- A port's becoming LIVE does not change what acceptance judges. -/
@[simp] theorem admitted_makeLive (s : State) (p : Port) (c : Command) : admitted (makeLive s p) p c = admitted s p c := by
  simp [admitted, makeLive]

end Frame

section Wheels

/-- Every wheel after wheelsOff (R104). -/
@[simp] theorem wheelOf_wheelsOff (s : State) (w : Wheel) : wheelOf (wheelsOff s) w = turnedOff (wheelOf s w) := by
  simp [wheelsOff, settleMarks, wheelOf]

/-- No wheel is in a state iff none of the four is. -/
theorem someWheelIn_iff (s : State) (st : WheelState) : someWheelIn s st = true ↔ ∃ w, (wheelOf s w).state = st := by
  simp only [someWheelIn, List.any_eq_true, beq_iff_eq]
  exact ⟨fun ⟨w, _, h⟩ => ⟨w, h⟩, fun ⟨w, h⟩ => ⟨w, Wheel.mem_all w, h⟩⟩

/-- A cycle expiry that comes is the run of one at its phase; one that does not come changes nothing (R54, R55). -/
theorem takeExpiry_cases (w : Wheel) (c m : Nat) (s : State) :
    (∃ ph, expiryPhase s w = some ph ∧ takeExpiry w c m s = runExpiry w c m ph s) ∨
      (expiryPhase s w = none ∧ takeExpiry w c m s = s) := by
  cases h : expiryPhase s w with
  | none => exact .inr ⟨rfl, by simp [takeExpiry, h]⟩
  | some ph => exact .inl ⟨ph, rfl, by simp [takeExpiry, h]⟩

/-- The clamp step keeps its range when the range is not inverted (R88). -/
theorem clamped_mem {q : Int} {imin imax : Nat} (h : imin ≤ imax) : imin ≤ clamped q imin imax ∧ clamped q imin imax ≤ imax := by
  unfold clamped
  split
  · exact ⟨Nat.le_refl _, h⟩
  · split
    · exact ⟨h, Nat.le_refl _⟩
    · omega

/-- The clamp of a velocity lies within its limits (R67). -/
theorem clampVelocity_mem (v : Int) : -4000 ≤ clampVelocity v ∧ clampVelocity v ≤ 4000 := by
  unfold clampVelocity Config.velocityLimit
  split
  · decide
  · split <;> omega

end Wheels

end Sys2Proof.Machine
end

