-- ==== Sys2Proof/Laws/Answers.lean ====
section
/-! SUPPORT. What a taken frame leaves, in the words of Safety: the answer, the port, the rest. -/

namespace Sys2Proof.Machine

/-- A port that receives takes the transaction that ends. -/
theorem takesTransaction_of_receives {s : State} {p : Port} (h : Receives s p) : takesTransaction s p = true := by
  simp [takesTransaction, h.1, h.2]

/-- A port that does not receive takes none. -/
theorem takesTransaction_of_not_receives {s : State} {p : Port} (h : ¬ Receives s p) : takesTransaction s p = false := by
  cases hr : s.inReset <;> simp_all [takesTransaction, Receives]

/-- What an owner must leave alone at its port for the answer to be whole: the link, its timer, the transaction. -/
structure KeepsLink (s u : State) (p : Port) : Prop where
  link : (portOf u p).link = .live
  timer : (portOf u p).linkTimer = (portOf s p).linkTimer

variable {h : Header} {c : Command} {owner : State → Answer} {s : State}

/-- A frame whose owner answered in state u with a status and data is answered so (R131, R134, R141). -/
theorem takeFrame_answered (ht : takesTransaction s h.port = true)
    (hk : KeepsLink s (judge (makeLive s h.port) h.port c owner).state h.port) :
    Answered s (takeFrame h c owner s) h (judge (makeLive s h.port) h.port c owner).status
      (judge (makeLive s h.port) h.port c owner).data := by
  have hself := takeFrame_self (c := c) (owner := owner) ht
  have hf := takeFrame_fields (c := c) (owner := owner) ht
  generalize judge (makeLive s h.port) h.port c owner = a at *
  obtain ⟨-, hm, -, -, hms, -, -, -, -, hw, hp, -, -, -, -⟩ := hf
  simp only at hself
  refine ⟨?_, ?_, ?_, ?_, ?_⟩
  · rw [hself]
    simp only [Response.mk.injEq, true_and, and_true]
    exact (alertOf_congr hm hw (by rw [hself]) (by rw [hself])).symm
  · rw [hself]
  · rw [hself]; exact hk.link
  · intro ho
    rw [hself]
    simp only [param, hp, hms]
    rw [hm] at ho
    rcases ho with ho | ho | ho <;> simp [restartedLink, ho, param] <;> rfl
  · intro ho
    rw [hself]
    rw [hm] at ho
    have hmode : a.state.mode = .loading ∨ a.state.mode = .shutdown := by
      cases hmm : a.state.mode <;> simp_all [OperatingMode]
    rcases hmode with hmm | hmm <;> simp [restartedLink, hmm, hk.timer]

/-- The other ports are as the owner left them. -/
theorem takeFrame_others (ht : takesTransaction s h.port = true)
    (ho : ∀ q, q ≠ h.port → portOf (judge (makeLive s h.port) h.port c owner).state q = portOf s q) :
    OthersKept s (takeFrame h c owner s) h.port := fun q hq => by
  rw [takeFrame_other ht hq, ho q hq]

/-- The sending port's other fields are as the owner left them, the pointer advanced by PUT and GET (R137). -/
theorem takeFrame_pointed (ht : takesTransaction s h.port = true) :
    PortPointed (judge (makeLive s h.port) h.port c owner).state (takeFrame h c owner s) h.port
      (if c = .put ∨ c = .get then (portOf (judge (makeLive s h.port) h.port c owner).state h.port).pointer + 1
       else (portOf (judge (makeLive s h.port) h.port c owner).state h.port).pointer) := by
  have hself := takeFrame_self (c := c) (owner := owner) ht
  simp only at hself
  constructor <;> rw [hself]

/-- What two events in turn leave of a port. -/
theorem PortPointed.trans {s u t : State} {p : Port} {x y : BitVec 12} (h : PortPointed s u p x)
    (k : PortPointed u t p y) : PortPointed s t p y :=
  ⟨k.role.trans h.role, k.pointer, k.staging.trans h.staging, k.mask.trans h.mask, k.edges.trans h.edges,
    k.reported.trans h.reported⟩

/-- A port's becoming LIVE leaves its other fields. -/
theorem portKept_makeLive (s : State) (p : Port) : PortKept s (makeLive s p) p := by
  constructor <;> simp [makeLive]

@[simp] theorem portOf_makeLive_self (s : State) (p : Port) :
    portOf (makeLive s p) p = { portOf s p with link := .live } := by simp [makeLive]

theorem portOf_makeLive_ne (s : State) {p q : Port} (h : q ≠ p) : portOf (makeLive s p) q = portOf s q := by
  simp [makeLive, portOf_modifyPort_ne _ _ h]

/-- The state of a frame is the owner's but for the ports. -/
theorem takeFrame_rest (ht : takesTransaction s h.port = true) :
    takeFrame h c owner s =
      { (judge (makeLive s h.port) h.port c owner).state with ports := (takeFrame h c owner s).ports } := by
  have hf := takeFrame_fields (c := c) (owner := owner) ht
  generalize takeFrame h c owner s = t at *
  generalize judge (makeLive s h.port) h.port c owner = a at *
  obtain ⟨h1, h2, h3, h4, h5, h6, h7, h8, h9, h10, h11, h12, h13, h14, h15⟩ := hf
  cases t
  simp_all

/-- A frame that changes nothing at its owner is only answered. -/
theorem takeFrame_onlyAnswered (ht : takesTransaction s h.port = true) {st : Status} {v : BitVec 16}
    (hj : judge (makeLive s h.port) h.port c owner = ⟨makeLive s h.port, st, v⟩) (hc : ¬ (c = .put ∨ c = .get)) :
    OnlyAnswered s (takeFrame h c owner s) h st v := by
  have hk : KeepsLink s (makeLive s h.port) h.port := ⟨by simp, by simp⟩
  refine ⟨?_, ?_, ?_, ?_⟩
  · simpa [hj] using takeFrame_answered (c := c) (owner := owner) ht (by simpa [hj] using hk)
  · have := takeFrame_pointed (c := c) (owner := owner) ht
    rw [hj, if_neg hc] at this
    simpa using (portKept_makeLive s h.port).trans this
  · exact takeFrame_others ht fun q hq => by rw [hj]; exact portOf_makeLive_ne s hq
  · have := takeFrame_rest (c := c) (owner := owner) ht
    rw [this, hj]
    rfl

/-- The same for PUT and GET. -/
theorem takeFrame_onlyAdvanced (ht : takesTransaction s h.port = true) {st : Status} {v : BitVec 16}
    (hj : judge (makeLive s h.port) h.port c owner = ⟨makeLive s h.port, st, v⟩) (hc : c = .put ∨ c = .get) :
    OnlyAdvanced s (takeFrame h c owner s) h st v := by
  have hk : KeepsLink s (makeLive s h.port) h.port := ⟨by simp, by simp⟩
  refine ⟨?_, ?_, ?_, ?_⟩
  · simpa [hj] using takeFrame_answered (c := c) (owner := owner) ht (by simpa [hj] using hk)
  · have := takeFrame_pointed (c := c) (owner := owner) ht
    rw [hj, if_pos hc] at this
    simpa only [portOf_makeLive_self] using (portKept_makeLive s h.port).trans this
  · exact takeFrame_others ht fun q hq => by rw [hj]; exact portOf_makeLive_ne s hq
  · have := takeFrame_rest (c := c) (owner := owner) ht
    rw [this, hj]
    rfl

/-- A frame that its owner answers in state u, its link, its timer and the other ports left alone: the answer, the
sending port as u has it, the other ports as before, and the rest of u. -/
theorem takeFrame_admitted (hr : Receives s h.port) (ha : admitted s h.port c = true) {u : State} {st : Status}
    {v : BitVec 16} (ho : owner (makeLive s h.port) = ⟨u, st, v⟩) (hl : KeepsLink s u h.port) :
    Answered s (takeFrame h c owner s) h st v ∧
      PortPointed u (takeFrame h c owner s) h.port
        (if c = .put ∨ c = .get then (portOf u h.port).pointer + 1 else (portOf u h.port).pointer) ∧
      (∀ q, q ≠ h.port → portOf (takeFrame h c owner s) q = portOf u q) ∧
      takeFrame h c owner s = { u with ports := (takeFrame h c owner s).ports } := by
  have ht := takesTransaction_of_receives hr
  have hj : judge (makeLive s h.port) h.port c owner = ⟨u, st, v⟩ := by
    rw [judge_admitted (by simpa using ha)]; exact ho
  refine ⟨?_, ?_, fun q hq => ?_, ?_⟩
  · have := takeFrame_answered (c := c) (owner := owner) ht (by rw [hj]; exact hl)
    rwa [hj] at this
  · have := takeFrame_pointed (c := c) (owner := owner) ht
    rwa [hj] at this
  · rw [takeFrame_other ht hq, hj]
  · have := takeFrame_rest (c := c) (owner := owner) ht
    rwa [hj] at this

end Sys2Proof.Machine
end

