-- ==== Sys2Proof/Laws/Memory.lean ====
section
/-! SUPPORT. The map memories: reading after writing, and that a write keeps the canonical form and the range. -/

namespace Sys2Proof.Machine

@[simp] theorem Memory.read_nil (a : Nat) : Memory.read [] a = 0 := rfl

@[simp] theorem Memory.wf_nil : Memory.wf [] = true := rfl

@[simp] theorem Memory.inRange_nil : Memory.inRange [] = true := rfl

/-- The canonical form as a proposition. -/
theorem Memory.wf_iff (m : Memory) :
    Memory.wf m = true ↔ m.Pairwise (fun x y => x.1 < y.1) ∧ ∀ x ∈ m, x.2 ≠ 0 := by
  simp [Memory.wf]

/-- The range as a proposition. -/
theorem Memory.inRange_iff (m : Memory) :
    Memory.inRange m = true ↔ ∀ x ∈ m, x.1 < Config.slotEntries ∧ x.2 ≤ Config.entryMax := by
  simp [Memory.inRange]

/-- An offset below every listed one reads 0. -/
theorem Memory.read_of_lt {m : Memory} {a : Nat} (h : ∀ x ∈ m, a < x.1) : Memory.read m a = 0 := by
  induction m with
  | nil => rfl
  | cons x rest ih =>
    obtain ⟨k, v⟩ := x
    have hk : a < k := h (k, v) (by simp)
    have : ¬ k = a := by omega
    simp only [Memory.read, this, if_false]
    exact ih fun y hy => h y (by simp [hy])

/-- A written entry lists only what was listed or what is written. -/
theorem Memory.mem_write {m : Memory} {a x : Nat} {e : Nat × Nat} (h : e ∈ Memory.write m a x) :
    e ∈ m ∨ (e = (a, x) ∧ x ≠ 0) := by
  induction m with
  | nil =>
    unfold Memory.write at h
    split at h <;> simp_all
  | cons y rest ih =>
    obtain ⟨k, v⟩ := y
    unfold Memory.write at h
    split at h
    · split at h
      · exact .inl h
      · rcases List.mem_cons.mp h with rfl | h
        · exact .inr ⟨rfl, by assumption⟩
        · exact .inl h
    · split at h
      · split at h
        · exact .inl (List.mem_cons_of_mem _ h)
        · rcases List.mem_cons.mp h with rfl | h
          · exact .inr ⟨rfl, by assumption⟩
          · exact .inl (List.mem_cons_of_mem _ h)
      · rcases List.mem_cons.mp h with rfl | h
        · exact .inl (by simp)
        · rcases ih h with h | h
          · exact .inl (List.mem_cons_of_mem _ h)
          · exact .inr h

/-- A write keeps the canonical form. -/
theorem Memory.wf_write {m : Memory} (a x : Nat) (h : Memory.wf m = true) : Memory.wf (Memory.write m a x) = true := by
  rw [Memory.wf_iff] at h ⊢
  obtain ⟨hp, hz⟩ := h
  refine ⟨?_, fun e he => ?_⟩
  · clear hz
    induction m with
    | nil => unfold Memory.write; split <;> simp
    | cons y rest ih =>
      obtain ⟨k, v⟩ := y
      have hrest := (List.pairwise_cons.mp hp).2
      have hk := (List.pairwise_cons.mp hp).1
      unfold Memory.write
      split
      · split
        · exact hp
        · refine List.pairwise_cons.mpr ⟨fun e he => ?_, hp⟩
          rcases List.mem_cons.mp he with rfl | he
          · assumption
          · have := hk e he
            simp only at this ⊢
            omega
      · split
        · split
          · exact hrest
          · refine List.pairwise_cons.mpr ⟨fun e he => ?_, hrest⟩
            have := hk e he
            simp only at this ⊢
            omega
        · refine List.pairwise_cons.mpr ⟨fun e he => ?_, ih hrest⟩
          rcases Memory.mem_write he with he | ⟨rfl, _⟩
          · exact hk e he
          · simp only
            omega
  · rcases Memory.mem_write he with he | ⟨rfl, hx⟩
    · exact hz e he
    · exact hx

/-- A write of a current keeps the range. -/
theorem Memory.inRange_write {m : Memory} {a x : Nat} (ha : a < Config.slotEntries) (hx : x ≤ Config.entryMax)
    (h : Memory.inRange m = true) : Memory.inRange (Memory.write m a x) = true := by
  rw [Memory.inRange_iff] at h ⊢
  intro e he
  rcases Memory.mem_write he with he | ⟨rfl, _⟩
  · exact h e he
  · exact ⟨ha, hx⟩

/-- A read at the offset written gives the value written. -/
theorem Memory.read_write_self {m : Memory} (a x : Nat) (h : Memory.wf m = true) :
    Memory.read (Memory.write m a x) a = x := by
  have hp := ((Memory.wf_iff m).mp h).1
  clear h
  induction m with
  | nil => unfold Memory.write; split <;> simp_all [Memory.read]
  | cons y rest ih =>
    obtain ⟨k, v⟩ := y
    have hrest := (List.pairwise_cons.mp hp).2
    have hk := (List.pairwise_cons.mp hp).1
    have below : ∀ e ∈ rest, k < e.1 := fun e he => hk e he
    unfold Memory.write
    split
    · split
      · subst x
        refine Memory.read_of_lt fun e he => ?_
        rcases List.mem_cons.mp he with rfl | he
        · assumption
        · have := below e he
          omega
      · simp [Memory.read]
    · split
      · subst a
        split
        · subst x
          exact Memory.read_of_lt below
        · simp [Memory.read]
      · have : ¬ k = a := by omega
        simp only [Memory.read, this, if_false]
        exact ih hrest

/-- A write leaves every other offset alone. -/
theorem Memory.read_write_ne {m : Memory} {a b : Nat} (x : Nat) (hab : b ≠ a) (h : Memory.wf m = true) :
    Memory.read (Memory.write m a x) b = Memory.read m b := by
  have hp := ((Memory.wf_iff m).mp h).1
  clear h
  induction m with
  | nil =>
    unfold Memory.write
    split <;> simp [Memory.read]
    omega
  | cons y rest ih =>
    obtain ⟨k, v⟩ := y
    have hrest := (List.pairwise_cons.mp hp).2
    have hk := (List.pairwise_cons.mp hp).1
    unfold Memory.write
    split
    · split
      · rfl
      · simp [Memory.read, hab.symm]
    · split
      · subst a
        split
        · simp [Memory.read, hab.symm]
        · simp [Memory.read, hab.symm]
      · simp only [Memory.read]
        rw [ih hrest]

/-- An entry in range reads a current of 0..2,000 mA. -/
theorem Memory.read_le {m : Memory} (a : Nat) (h : Memory.inRange m = true) : Memory.read m a ≤ Config.entryMax := by
  rw [Memory.inRange_iff] at h
  induction m with
  | nil => simp [Memory.read]
  | cons y rest ih =>
    obtain ⟨k, v⟩ := y
    simp only [Memory.read]
    split
    · exact (h (k, v) (by simp)).2
    · exact ih fun e he => h e (by simp [he])

end Sys2Proof.Machine
end

