-- ==== Sys2Proof/Laws/Operands.lean ====
section
/-! SUPPORT. Wheel masks, data fields, full queues, the place of an inserted item, the source of a COPY, the holder of a
role. -/

namespace Sys2Proof.Machine

/-- A mask made from a predicate names a wheel exactly where the predicate holds. -/
@[simp] theorem namesWheel_maskOf (f : Wheel → Bool) (w : Wheel) : namesWheel (maskOf f) w = f w := by
  cases w <;> simp only [namesWheel, maskOf, Wheel.num, BitVec.getLsbD_append] <;> simp

/-- Masks that name the same wheels are equal. -/
theorem mask_ext {x y : BitVec 4} (h : ∀ w, namesWheel x w = namesWheel y w) : x = y := by
  apply BitVec.eq_of_getLsbD_eq
  intro i hi
  match i, hi with
  | 0, _ => exact h .fl
  | 1, _ => exact h .fr
  | 2, _ => exact h .rl
  | 3, _ => exact h .rr

/-- A mask made from a predicate is empty exactly where the predicate holds of no wheel. -/
theorem maskOf_eq_zero (f : Wheel → Bool) : maskOf f = 0 ↔ ∀ w, f w = false := by
  refine ⟨fun h w => ?_, fun h => mask_ext fun w => ?_⟩
  · rw [← namesWheel_maskOf f w, h]
    simp [namesWheel]
  · rw [namesWheel_maskOf, h]
    simp [namesWheel]

/-- A queue is full from 12 items on (R36). -/
theorem isFull_iff (q : List PreviewItem) : isFull q = true ↔ 12 ≤ q.length := by
  simp only [isFull, decide_eq_true_eq]
  rfl

/-- Insertion puts an item after every item at the head that is no farther (R38). -/
theorem insertItem_eq_placed (position : BitVec 24) (i : PreviewItem) (q : List PreviewItem) :
    insertItem position i q = placed position i q := by
  unfold placed
  induction q with
  | nil => rfl
  | cons x rest ih =>
    simp only [insertItem, List.takeWhile_cons, List.dropWhile_cons]
    split
    · simp only [*, decide_true, if_true]
      rfl
    · simp only [*, decide_false]
      rfl

/-- The rear queue's COPY comes from its front wheel, that one named and the rear one not, with the flag set (R44). -/
theorem copySource_eq_some (mask : BitVec 4) (g : Staging) (w f : Wheel) :
    copySource mask g w = some f ↔
      g.copyFlag = true ∧ f.rearPartner = some w ∧ namesWheel mask f = true ∧ namesWheel mask w = false := by
  have cases_of : ∀ c m0 m1 m2 m3 : Bool,
      let m := fun w : Wheel => match w with
        | .fl => m0
        | .fr => m1
        | .rl => m2
        | .rr => m3
      ∀ w ∈ Wheel.all, ∀ f ∈ Wheel.all,
        (Wheel.all.find? fun f => c && m f && f.rearPartner == some w && !m w) = some f ↔
          c = true ∧ f.rearPartner = some w ∧ m f = true ∧ m w = false := by decide
  have named : namesWheel mask = fun w : Wheel => match w with
      | .fl => namesWheel mask .fl
      | .fr => namesWheel mask .fr
      | .rl => namesWheel mask .rl
      | .rr => namesWheel mask .rr := by
    funext w
    cases w <;> rfl
  have h := cases_of g.copyFlag (namesWheel mask .fl) (namesWheel mask .fr) (namesWheel mask .rl) (namesWheel mask .rr) w
    (Wheel.mem_all w) f (Wheel.mem_all f)
  rw [copySource, named]
  exact h

/-- With distinct roles a port that holds one is its holder (R135). -/
theorem holder_of_role {s : State} (hd : RolesDistinct s) {p : Port} {r : Role} (hr : (portOf s p).role = r)
    (hn : r ≠ .none) : holder s r = some p := by
  cases h : holder s r with
  | none => exact absurd hr (holder_none h p)
  | some q =>
    have hq := role_of_holder h
    rw [hd q p (by rw [hq, hr]) (by rw [hq]; exact hn)]

/-- A port's becoming LIVE keeps roles distinct. -/
theorem rolesDistinct_makeLive {s : State} (h : RolesDistinct s) (p : Port) : RolesDistinct (makeLive s p) := by
  have e : ∀ q, (portOf (makeLive s p) q).role = (portOf s q).role := fun q => by
    simp only [makeLive, portOf_modifyPort]
    split <;> rfl
  intro x y
  rw [e, e]
  exact h x y

end Sys2Proof.Machine
end

