-- ==== Sys2Proof/Laws/Wire.lean ====
section
/-! SUPPORT. The frames on the wire: what a sealed frame and a request frame carry in each of their fields, and that their
CRC-8 is the one of their payload. -/

namespace Sys2Proof.Machine

/-- Bits 31-8 of a sealed frame by number. -/
theorem getLsbD_sealFrame_payload (x : BitVec 24) (k : Nat) : (sealFrame x).getLsbD (8 + k) = x.getLsbD k := by
  rw [sealFrame, BitVec.getLsbD_append]
  simp

/-- Bits 7-0 of a sealed frame by number. -/
theorem getLsbD_sealFrame_crc (x : BitVec 24) {k : Nat} (h : k < 8) : (sealFrame x).getLsbD k = (crc8 x).getLsbD k := by
  rw [sealFrame, BitVec.getLsbD_append]
  simp [h]

/-- The payload of a sealed frame is what was sealed (R131). -/
@[simp] theorem framePayload_sealFrame (x : BitVec 24) : framePayload (sealFrame x) = x := by
  apply BitVec.eq_of_getLsbD_eq
  intro i hi
  simp only [framePayload, BitVec.getLsbD_extractLsb', hi, decide_true, Bool.true_and, getLsbD_sealFrame_payload]

/-- The CRC of a sealed frame is the one of its payload (R132). -/
@[simp] theorem frameCrc_sealFrame (x : BitVec 24) : frameCrc (sealFrame x) = crc8 x := by
  apply BitVec.eq_of_getLsbD_eq
  intro i hi
  simp only [frameCrc, BitVec.getLsbD_extractLsb', hi, decide_true, Bool.true_and, Nat.zero_add,
    getLsbD_sealFrame_crc x hi]

/-- A sealed frame is a good one (R132). -/
@[simp] theorem crcMatches_sealFrame (x : BitVec 24) : crcMatches (sealFrame x) = true := by
  simp [crcMatches]

/-- A word's bits, most significant first, are as many as the word has. -/
@[simp] theorem length_bitsOfWord {n : Nat} (w : BitVec n) : (bitsOfWord w).length = n := by
  induction n with
  | zero => rfl
  | succ n ih => simp [bitsOfWord, ih]

/-- Received bits that are a whole word give that word back (R130, R133). -/
@[simp] theorem wordOfBits_bitsOfWord {n : Nat} (w : BitVec n) : wordOfBits n (bitsOfWord w) = w := by
  induction n with
  | zero => exact (BitVec.eq_nil w).symm
  | succ n ih =>
    simp only [bitsOfWord, wordOfBits, ih]
    exact BitVec.cons_msb_setWidth w

end Sys2Proof.Machine
end

