-- ==== Sys2Proof/Laws/PerInstr.lean ====
section
/-! SUPPORT. One family of statements over the commands, a lemma for each constructor: which commands a request frame
carries, and that every such frame is a good one. -/

namespace Sys2Proof.Laws.GoodFrame

open Sys2Proof.Machine

/-- A command has a request frame exactly where Table 7-5 gives it a code, and that frame carries a correct CRC-8 (R132). -/
def Statement (i : Instr) : Prop :=
  (encodeFrame i).isSome = (frameOf i).isSome ∧ ∀ f, encodeFrame i = some f → crcMatches f = true

/-- A command whose frame is a request frame (Table 7-2). -/
theorem of_request {i : Instr} {h : Header} {code : BitVec 5} {data : BitVec 12}
    (he : encodeFrame i = some (requestFrame h code data)) (ho : (frameOf i).isSome = true) : Statement i := by
  refine ⟨by rw [he, ho]; rfl, fun f hf => ?_⟩
  rw [he] at hf
  obtain rfl := Option.some.inj hf
  exact crcMatches_sealFrame _

/-- An event that no frame carries. -/
theorem of_event {i : Instr} (he : encodeFrame i = none) (ho : frameOf i = none) : Statement i :=
  ⟨by rw [he, ho]; rfl, fun f hf => by rw [he] at hf; exact absurd hf (by simp)⟩

theorem nop (h : Header) (data : BitVec 12) : Statement (.nop h data) := of_request rfl rfl

theorem setLevel (h : Header) (data : BitVec 12) : Statement (.setLevel h data) := of_request rfl rfl

theorem setFloor (h : Header) (data : BitVec 12) : Statement (.setFloor h data) := of_request rfl rfl

theorem release (h : Header) (data : BitVec 12) : Statement (.release h data) := of_request rfl rfl

theorem previewLevel (h : Header) (data : BitVec 12) : Statement (.previewLevel h data) := of_request rfl rfl

theorem previewSpan (h : Header) (data : BitVec 12) : Statement (.previewSpan h data) := of_request rfl rfl

theorem previewAt (h : Header) (data : BitVec 12) : Statement (.previewAt h data) := of_request rfl rfl

theorem previewCancel (h : Header) (data : BitVec 12) : Statement (.previewCancel h data) := of_request rfl rfl

theorem select (h : Header) (data : BitVec 12) : Statement (.select h data) := of_request rfl rfl

theorem put (h : Header) (data : BitVec 12) : Statement (.put h data) := of_request rfl rfl

theorem mapPut (h : Header) (data : BitVec 12) : Statement (.mapPut h data) := of_request rfl rfl

theorem get (h : Header) (data : BitVec 12) : Statement (.get h data) := of_request rfl rfl

theorem modeConfig (h : Header) : Statement (.modeConfig h) := of_request rfl rfl

theorem modeRun (h : Header) : Statement (.modeRun h) := of_request rfl rfl

theorem modeCalibrate (h : Header) : Statement (.modeCalibrate h) := of_request rfl rfl

theorem notice (h : Header) (data : BitVec 12) : Statement (.notice h data) := of_request rfl rfl

theorem noticeMask (h : Header) (data : BitVec 12) : Statement (.noticeMask h data) := of_request rfl rfl

theorem clearBank (h : Header) (data : BitVec 12) : Statement (.clearBank h data) := of_request rfl rfl

theorem storeProgram (h : Header) (data : BitVec 12) : Statement (.storeProgram h data) := of_request rfl rfl

theorem storeAbort (h : Header) (data : BitVec 12) : Statement (.storeAbort h data) := of_request rfl rfl

theorem overlayBind (h : Header) (bank spare code : BitVec 4) : Statement (.overlayBind h bank spare code) := of_request rfl rfl

theorem overlayUnbind (h : Header) (bank spare : BitVec 4) : Statement (.overlayUnbind h bank spare) := of_request rfl rfl

theorem overlayCommit (h : Header) (data : BitVec 12) : Statement (.overlayCommit h data) := of_request rfl rfl

theorem unassignedCommand (h : Header) (code : BitVec 5) (data : BitVec 12) : Statement (.unassignedCommand h code data) := of_request rfl rfl

theorem framingError (p : Port) (bits : List Bool) : Statement (.framingError p bits) := of_event rfl rfl

theorem safeAsserted : Statement .safeAsserted := of_event rfl rfl

theorem safeReleased : Statement .safeReleased := of_event rfl rfl

theorem calEnFall : Statement .calEnFall := of_event rfl rfl

theorem calEnRise : Statement .calEnRise := of_event rfl rfl

theorem travelPulse : Statement .travelPulse := of_event rfl rfl

theorem advance : Statement .advance := of_event rfl rfl

theorem standstillExpiry : Statement .standstillExpiry := of_event rfl rfl

theorem demandRecordExpiry (w : Wheel) (src : Source) : Statement (.demandRecordExpiry w src) := of_event rfl rfl

theorem linkTimerExpiry (p : Port) : Statement (.linkTimerExpiry p) := of_event rfl rfl

theorem periodStart : Statement .periodStart := of_event rfl rfl

theorem cycleExpiry (w : Wheel) (code : BitVec 12) (measured : Fin 2601) : Statement (.cycleExpiry w code measured) := of_event rfl rfl

theorem shortDetected (w : Wheel) : Statement (.shortDetected w) := of_event rfl rfl

theorem storeCompletion (verifyGood : Bool) : Statement (.storeCompletion verifyGood) := of_event rfl rfl

theorem parameterBlockLoad : Statement .parameterBlockLoad := of_event rfl rfl

theorem slotLoad (slot : Fin 8) : Statement (.slotLoad slot) := of_event rfl rfl

theorem loadCompletion : Statement .loadCompletion := of_event rfl rfl

theorem powerOnReset : Statement .powerOnReset := of_event rfl rfl

theorem resetLineReset : Statement .resetLineReset := of_event rfl rfl

theorem resetEnd (strapA strapB strapC : BitVec 2) : Statement (.resetEnd strapA strapB strapC) := of_event rfl rfl

theorem chipSelectFall (p : Port) : Statement (.chipSelectFall p) := of_event rfl rfl

theorem millisecondBoundary : Statement .millisecondBoundary := of_event rfl rfl

theorem modeInvalidRequest (h : Header) (data : BitVec 12) : Statement (.modeInvalidRequest h data) := of_request rfl rfl

end Sys2Proof.Laws.GoodFrame
end

