-- ==== Sys2Proof/Tests/Slice0.lean ====
section
/-! SUPPORT. Tests: the checks of WellFormed, frames written out by hand, one step for each command from the worked cases of
spec/, and a witness for the hypotheses of each statement. -/

namespace Sys2Proof.Tests

open Sys2Proof.Machine

-- One theorem at a time: a thread for each of them would ask for more memory than the check allows.
set_option Elab.async false

/-- The state that a command leaves. -/
def after (i : Instr) (s : State) : State :=
  match exec i s with
  | .next t => t
  | .fault _ | .refused _ => s

/-- A header with tag 1. -/
def from_ (p : Port) (mask : BitVec 4 := 0) : Header := ⟨p, mask, 1⟩

/-- Status and data that a port's response slot holds. -/
def slot (p : Port) (s : State) : Status × BitVec 16 := ((portOf s p).response.status, (portOf s p).response.data)

/-- Status and data that a frame is answered with. -/
def answer (p : Port) (i : Instr) (s : State) : Status × BitVec 16 := slot p (after i s)

/-- Outside a reset, with the roles of chapter 10 (A RIDE, B STABILITY, C PREVIEW) and, in the modes in which it runs, the
cycle timer in its first period. -/
def rig (m : Mode) : State :=
  { State.reset with
    inReset := false
    mode := m
    ports := ⟨{ PortState.reset with role := .ride }, { PortState.reset with role := .stability },
      { PortState.reset with role := .preview }⟩
    timer := if m = .config ∨ m = .run ∨ m = .calibrate then ⟨true, 0, some (takenPeriod State.reset), 0⟩ else State.reset.timer }

/-- A parameter given a value. -/
def withParam (k : Param) (v : Int) (s : State) : State := { s with params := putParam s.params k v }

/-- A queue given its items. -/
def withQueue (w : Wheel) (q : List PreviewItem) (s : State) : State :=
  { s with preview := { queues := s.preview.queues.set w q, arrivals := 100 } }

/-- Every port's index pointer at one index. -/
def pointed (x : BitVec 12) (s : State) : State := modifyPorts s fun _ r => { r with pointer := x }

/-- A slot given entries and made VALID. -/
def withSlot (k : Fin 8) (m : Memory) (s : State) : State := setSlot s k ⟨m, true⟩

/-- A bank bound to a slot with entries. -/
def withBank (b : Fin 2) (m : Memory) (k : Option (Fin 8)) (s : State) : State := setBank s b ⟨m, k⟩

/-- A preview item ahead of or behind P = 0 by its trigger. -/
def item (trigger : BitVec 24) (span level : Nat) (active : Bool) (arrival : Nat) : PreviewItem :=
  ⟨trigger, span, level, true, .direct, active, arrival⟩

/-- Port C has staged a demand with its copy flag set. -/
def staged (s : State) : State := modifyStaging s .c fun _ => ⟨700, true, true, true, 600, true⟩

/-- Twelve items that stand ahead. -/
def dozen : List PreviewItem := (List.range 12).map fun n => item (BitVec.ofNat 24 (1000 + n)) 10 100 false n

/-- A claim for every wheel from the four wheels. -/
theorem forWheels {P : Wheel → Prop} (a : P .fl) (b : P .fr) (c : P .rl) (d : P .rr) : ∀ w, P w := by
  intro w; cases w <;> assumption

/-- A claim for every port from the three ports. -/
theorem forPorts {P : Port → Prop} (a : P .a) (b : P .b) (c : P .c) : ∀ p, P p := by
  intro p; cases p <;> assumption

/-! WellFormed: each check refuses a term that breaks it. -/

theorem test_wellFormed_bind_of_code_15 :
    (Instr.overlayBind (from_ .a) 0 0 15).wellFormed = false ∧ (Instr.overlayBind (from_ .a) 0 0 14).wellFormed = true := by
  decide

theorem test_wellFormed_assigned_code :
    (Instr.unassignedCommand (from_ .a) 0x12 0).wellFormed = false ∧
      (Instr.unassignedCommand (from_ .a) 0x13 0).wellFormed = true := by
  decide

theorem test_wellFormed_valid_mode_request :
    (Instr.modeInvalidRequest (from_ .a) 2).wellFormed = false ∧ (Instr.modeInvalidRequest (from_ .a) 3).wellFormed = true := by
  decide

theorem test_wellFormed_good_bits :
    (Instr.framingError .a (bitsOfWord 0x0000000E#32)).wellFormed = false ∧
      (Instr.framingError .a (bitsOfWord 0x0000000F#32)).wellFormed = true := by
  decide +kernel

/-! Frames: fields placed by hand as Table 7-2 places them, codes of Table 7-5; the CRC-8 appended. -/

/-- The bits of 24 written-out payload bits with their CRC-8. -/
def wire (payload : BitVec 24) : List Bool := bitsOfWord (sealFrame payload)

theorem test_frame_setLevel :
    decodeFrame .a (wire (0b00001#5 ++ 0b0001#4 ++ 0b011001000000#12 ++ 0b101#3)) =
      .setLevel ⟨.a, 1, 5⟩ (0b0110010000#10 ++ 0b00#2) := by decide +kernel

theorem test_frame_notice : decodeFrame .b (wire 0b011000000000000000000010#24) = .notice ⟨.b, 0, 2⟩ 0 := by
  decide +kernel

theorem test_frame_mode_run : decodeFrame .a (wire 0b010110000000000000001000#24) = .modeRun ⟨.a, 0, 0⟩ := by
  decide +kernel

theorem test_frame_overlay_unbind :
    decodeFrame .a (wire 0b100010000000100001111000#24) = .overlayUnbind ⟨.a, 0, 0⟩ 1 0 := by decide +kernel

theorem test_frame_preview_at :
    decodeFrame .c (wire 0b001100001000110010000000#24) = .previewAt ⟨.c, 1, 0⟩ 400 := by decide +kernel

theorem test_frame_store_program : decodeFrame .a (wire 0b011110000000000000011001#24) = .storeProgram ⟨.a, 0, 1⟩ 3 := by
  decide +kernel

theorem test_frame_unassigned : decodeFrame .a (wire 0b111110000000000000000000#24) = .unassignedCommand ⟨.a, 0, 0⟩ 31 0 := by
  decide +kernel

/-- A NOP of zeros: its CRC-8 register, starting from FFh, ends at 0Eh by hand. -/
theorem test_frame_nop_crc : crc8 0 = 0x0E#8 ∧ decodeFrame .a (bitsOfWord 0x0000000E#32) = .nop ⟨.a, 0, 0⟩ 0 := by
  decide +kernel

theorem test_frame_31_bits : decodeFrame .a (List.replicate 31 true) = .framingError .a (List.replicate 31 true) := by
  decide +kernel

/-- The table gives no row any bits (log 3). -/
theorem test_table_word_spells_nothing : decodeTableWord 32 0x0000000E = none ∧ State.reset.withFetchWord 32 0 = State.reset :=
  ⟨rfl, rfl⟩

/-! Table 1-8 and R7, R8. -/

theorem test_setLevel_expiry :
    demandOf (after (.setLevel (from_ .a 1) (400#10 ++ 0#2)) { rig .run with msCount := 2000 }) .fl .ride =
      some ⟨.a, 400, some false, 2100⟩ := by decide +kernel

theorem test_setLevel_new_hold :
    demandOf (after (.setLevel (from_ .a 1) (420#10 ++ 2#2)) (withParam .holdRide 20 { rig .run with msCount := 2180 })) .fl .ride =
      some ⟨.a, 420, some true, 2380⟩ := by decide +kernel

/-- Section 10.3, the first row. -/
theorem test_setFloor :
    demandOf (after (.setFloor (from_ .b 15) (900#10 ++ 3#2)) { rig .run with msCount := 5000 }) .rr .stability =
      some ⟨.b, 900, none, 5500⟩ := by decide +kernel

/-- A record on every wheel. -/
def ridden : State := setNamedDemands { rig .run with msCount := 2379 } 15 .ride (some ⟨.a, 420, some true, 2380⟩)

theorem test_release :
    let t := after (.release (from_ .a 2) 0) ridden
    demandOf t .fr .ride = none ∧ (demandOf t .fl .ride).isSome ∧ (portOf t .a).edges = EdgeSet.none := by decide +kernel

theorem test_demandRecordExpiry :
    let t := after (.demandRecordExpiry .fl .ride) { ridden with msCount := 2380 }
    demandOf t .fl .ride = none ∧ (portOf t .a).edges.demandLapsed = true ∧ (demandOf t .fr .ride).isSome := by decide +kernel

theorem test_demandRecordExpiry_ahead : after (.demandRecordExpiry .fl .ride) ridden = ridden := by decide +kernel

/-- A remaining time reads 100 just after a SET_LEVEL at 2000 with a hold of 100 ms (Table 1-8, row 1; GET of 144h). -/
theorem test_get_remaining_time :
    answer .b (.get (from_ .b) 0)
      (pointed 0x144 (setNamedDemands { rig .run with msCount := 2000 } 1 .ride (some ⟨.a, 400, some false, 2100⟩))) =
      (.ok, 100) := by decide +kernel

theorem test_millisecondBoundary : (after .millisecondBoundary ridden).msCount = 2380 := by decide +kernel

/-! Table 1-9. -/

/-- Wheel 1 with an effective preview item, a RIDE record and a STABILITY record, as given. -/
def contest (it : Option (Nat × Bool)) (ride floor : Option Nat) : State :=
  withQueue .fr (it.toList.map fun x => ⟨0, 100, x.1, x.2, .direct, true, 0⟩)
    (setDemand (setDemand (rig .run) .fr .ride (ride.map fun l => ⟨.a, l, some false, 90⟩)) .fr .stability
      (floor.map fun l => ⟨.b, l, none, 90⟩))

theorem test_arbitration_cases_abcd :
    arbitrate (contest none none none) .fr 512 = ⟨.default, 512, false, 0, none⟩ ∧
    arbitrate (contest none (some 610) none) .fr 512 = ⟨.ride, 610, false, 0, none⟩ ∧
    arbitrate (contest none (some 610) (some 700)) .fr 512 = ⟨.stability, 700, false, 0, none⟩ ∧
    arbitrate (contest none (some 610) (some 610)) .fr 512 = ⟨.ride, 610, false, 0, none⟩ := by decide +kernel

theorem test_arbitration_cases_efgh :
    arbitrate (contest (some (300, true)) (some 610) (some 450)) .fr 512 = ⟨.stability, 450, true, 1, none⟩ ∧
    arbitrate (contest (some (800, true)) (some 610) (some 700)) .fr 512 = ⟨.preview, 800, true, 1, none⟩ ∧
    arbitrate (contest none none (some 400)) .fr 512 = ⟨.default, 512, false, 0, none⟩ ∧
    arbitrate (contest none none (some 900)) .fr 512 = ⟨.stability, 900, false, 0, none⟩ := by decide +kernel

/-! Chapter 2: Table 2-5, sections 2.4 and 2.5, R33. -/

theorem test_travelPulse :
    let t := after .travelPulse (withParam .travelStep 1300 { rig .run with travel := ⟨3, 900, 0, true, none⟩, msCount := 70 })
    t.travel = ⟨3, 200, 2, false, some 270⟩ := by decide +kernel

/-- Queue 0 as before section 2.4, P = FFFF00h. -/
def bumped : State :=
  staged (withQueue .fl [⟨0xFFFE80, 300, 300, false, .direct, true, 5⟩]
    { rig .run with travel := ⟨0xFFFF00, 0, 1, false, none⟩ })

theorem test_previewAt_inserts :
    let t := after (.previewAt (from_ .c 1) 400) bumped
    slot .c t = (.ok, 5) ∧
      (queueOf t .fl).map (fun i => (i.trigger, i.active)) = [(0xFFFE80, true), (0x000090, false)] ∧
      (queueOf t .rl).map (fun i => (i.trigger, i.origin)) = [(0x000C48, .copy .fl)] := by decide +kernel

theorem test_previewAt_full :
    let s := withQueue .fr dozen (rig .run)
    answer .c (.previewAt (from_ .c 3) 1500) (staged s) = (.full, 2) ∧
      queueOf (after (.previewAt (from_ .c 3) 1500) (staged s)) .fl = [] := by decide +kernel

theorem test_previewAt_loses_copy :
    let t := after (.previewAt (from_ .c 1) 1500) (staged (withQueue .rl dozen (rig .run)))
    slot .c t = (.ok, 1) ∧ (portOf t .c).edges.previewDropped = true ∧ (queueOf t .rl).length = 12 := by decide +kernel

/-- Steps 2 and 7 of Table 2-6: an item retires at its end, and an earlier one becomes effective again. -/
theorem test_advance_retires :
    let q := [item 0x000090 600 700 true 1, item 0x0001C8 100 850 true 2]
    let s := withQueue .fl q { rig .run with travel := ⟨0x00022B, 0, 1, false, none⟩ }
    let t := after .advance s
    (effectiveItem (queueOf s .fl)).map (·.level) = some 850 ∧ (effectiveItem (queueOf t .fl)).map (·.level) = some 700 ∧
      t.travel.position = 0x00022C ∧ t.travel.advances = 0 := by decide +kernel

/-- Step 3 of Table 2-6: P wraps, and an item ahead is not reached. -/
theorem test_advance_wraps :
    let s := withQueue .fl [item 0x000090 600 700 false 1] { rig .run with travel := ⟨0xFFFFFF, 0, 1, false, none⟩ }
    let t := after .advance s
    t.travel.position = 0 ∧ (queueOf t .fl).map (·.active) = [false] := by decide +kernel

theorem test_standstillExpiry :
    (after .standstillExpiry { rig .run with travel := ⟨9, 0, 0, false, some 270⟩, msCount := 270 }).travel =
      ⟨9, 0, 0, true, none⟩ := by decide +kernel

theorem test_previewLevel :
    (portOf (after (.previewLevel (from_ .c) (700#10 ++ 3#2)) (rig .run)) .c).staging = ⟨700, true, true, true, 0, false⟩ := by
  decide +kernel

theorem test_previewSpan :
    (portOf (after (.previewSpan (from_ .c) 600) (rig .run)) .c).staging = ⟨0, false, false, false, 600, true⟩ ∧
      answer .c (.previewSpan (from_ .c) 0) (rig .run) = (.badArg, 0) := by decide +kernel

/-- Section 2.4, last paragraph: the copy in queue 2 stays. -/
theorem test_previewCancel :
    let s := withQueue .rl [item 0xC48 600 700 false 3] (withQueue .fl [item 0x90 600 700 false 2] (rig .run))
    answer .c (.previewCancel (from_ .c 1) 0) s = (.ok, 1) ∧
      (queueOf (after (.previewCancel (from_ .c 1) 0) s) .rl).length = 1 := by decide +kernel

/-! Chapter 3: sections 3.6 and 3.7, R54, R55. -/

/-- A stroke record with the sensor OK. -/
def primed (code : Nat) (position velocity : Int) : Stroke := ⟨.ok, 0, 0, code, some position, velocity⟩

theorem test_stroke_section_3_6 :
    let s := rig .run
    let k := strokeAfter s .fl 2110 1000 false 8 (primed 2100 2080 300)
    k = primed 2110 2480 350 ∧ strokeAfter s .fl 2099 1000 false 8 k = primed 2099 2040 (-45) := by decide +kernel

/-- Section 3.6, the last example: both quotients are truncated toward zero. -/
theorem test_stroke_truncation :
    rawVelocity (some 0) (-148) 1500 = -98 ∧ filteredVelocity (-40) (-98) 5 = -58 := by decide +kernel

/-- Table 3-6, expiries 3 and 20. -/
theorem test_stroke_lost_and_recovered :
    let s := rig .run
    strokeAfter s .rl 4095 1000 false 8 ⟨.ok, 2, 0, 2060, some 480, 20⟩ = ⟨.lost, 3, 0, 2060, some 480, 20⟩ ∧
      strokeAfter s .rl 2072 1000 false 8 ⟨.lost, 0, 15, 2071, some 480, 20⟩ = primed 2072 960 10 := by decide +kernel

theorem test_periodStart :
    let t := after .periodStart (withParam .cycleUs 1500 (rig .run))
    t.timer.period.map (·.length) = some 1500 ∧ t.timer.periodStart = 1000 ∧ t.timer.counter = 0 := by decide +kernel

/-! Chapter 4: sections 4.3.1 to 4.3.4, 4.6. -/

/-- The entries of sections 4.3.1 to 4.3.3, at offsets of R75. -/
def worked : Memory :=
  [(4, 400), (5, 520), (49, 700), (50, 820), (52, 1100), (53, 1220), (58, 780), (59, 900), (61, 1180), (62, 1300),
   (304, 1900), (305, 2000)]

/-- A wheel that ran its last cycle at a target. -/
def runningAt (target : Nat) (k : Stroke) (r : WheelRecord) : WheelRecord :=
  { r with state := .active, stroke := k, target := target, previousTarget := some target, driver := ⟨true, target⟩ }

/-- Wheel 0 of sections 3.6 and 4.3.1 before expiry n, the period before having begun at 0. -/
def wheelZero : State :=
  withParam (.trim .fl) 15
    (withSlot 0 worked
      (setDemand (modifyWheel { rig .run with timer := ⟨true, 0, some (takenPeriod State.reset), 1000⟩ } .fl fun r =>
        { runningAt 780 (primed 2100 2080 300) r with lastExpiry := some 0 })
        .fl .ride (some ⟨.a, 610, some false, 90⟩)))

theorem test_cycleExpiry_table_4_6 :
    let r := wheelOf (after (.cycleExpiry .fl 2110 780) wheelZero) .fl
    r.stroke.velocity = 350 ∧ r.mapResult = 829 ∧ r.target = 830 ∧ r.driver = ⟨true, 830⟩ ∧ r.previousTarget = some 830 ∧
      r.arbitrated = ⟨.ride, 610, false, 0, none⟩ ∧ r.state = .active := by decide +kernel

theorem test_cycleExpiry_under_floor :
    let r := wheelOf (after (.cycleExpiry .fl 2110 780) (setDemand wheelZero .fl .stability (some ⟨.b, 900, none, 90⟩))) .fl
    r.mapResult = 1141 ∧ r.target = 1156 ∧ r.arbitrated.winner = .stability := by decide +kernel

theorem test_lookup_section_4_3_3 :
    mapLookup wheelZero ⟨.ride, 610, false, 0, none⟩ 0 = 492 ∧
      mapLookup wheelZero ⟨.ride, 1023, false, 0, none⟩ (-1500) = 1999 := by decide +kernel

/-- Latched values of wheel 2 in section 4.3.4. -/
def wheelTwo (imax : Nat) : Latched := ⟨0, 250, imax, 50, 50, 8, 512, 100⟩

theorem test_slew_table_4_7 :
    shapedTarget 900 none .ride (wheelTwo 1800) = 900 ∧ shapedTarget 1200 (some 900) .ride (wheelTwo 1800) = 950 ∧
      shapedTarget 1200 (some 950) .stability (wheelTwo 1800) = 1200 ∧
      shapedTarget 600 (some 1200) .ride (wheelTwo 1800) = 1150 ∧ shapedTarget 600 (some 1150) .ride (wheelTwo 700) = 700 ∧
      shapedTarget 600 (some 700) .ride (wheelTwo 700) = 650 ∧ shapedTarget 100 (some 650) .ride (wheelTwo 700) = 600 := by
  decide +kernel

/-- Slot 0 holds 700 at 231h, bank 0 is bound to it and holds 760 there (Table 4-11, after step 2). -/
def edited : State := withBank 0 [(49, 760)] (some 0) (withSlot 0 [(49, 700)] (rig .calibrate))

theorem test_overlayBind :
    let t := after (.overlayBind (from_ .a) 0 0 0) (withSlot 0 [(49, 700)] (rig .calibrate))
    slot .a t = (.ok, 0) ∧ bankOf t 0 = ⟨[(49, 700)], some 0⟩ := by decide +kernel

theorem test_overlayBind_slot_taken : answer .a (.overlayBind (from_ .a) 1 0 0) edited = (.badArg, 0) := by decide +kernel

theorem test_overlayUnbind :
    bankOf (after (.overlayUnbind (from_ .a) 0 0) edited) 0 = ⟨[(49, 760)], none⟩ := by decide +kernel

theorem test_mapPut_bank :
    let t := after (.mapPut (from_ .a) 760) (pointed 0x231 (withBank 0 [(49, 700)] (some 0) (withSlot 0 [(49, 700)] (rig .calibrate))))
    Memory.read (bankOf t 0).entries 49 = 760 ∧ Memory.read (slotOf t 0).entries 49 = 700 ∧
      (portOf t .a).pointer = 0x232 := by decide +kernel

theorem test_mapPut_clamped : answer .a (.mapPut (from_ .a) 2500) (pointed 0x232 edited) = (.clamped, 2000) := by decide +kernel

theorem test_get_bound_slot :
    answer .a (.get (from_ .a) 0) (pointed 0x231 edited) = (.ok, 760) ∧
      answer .a (.get (from_ .a) 0) (pointed 0xC31 edited) = (.ok, 760) := by decide +kernel

theorem test_overlayCommit :
    let t := after (.overlayCommit (from_ .a) 0) edited
    slot .a t = (.ok, 0) ∧ Memory.read (slotOf t 0).entries 49 = 760 ∧ bankOf t 0 = ⟨[(49, 760)], none⟩ := by decide +kernel

/-! Chapter 5: Table 5-6 expiry 5, section 5.6. -/

/-- Wheel 3 before expiry 5 of Table 5-6. -/
def wheelThree : State :=
  modifyWheel { rig .run with timer := ⟨true, 0, some (takenPeriod State.reset), 1000⟩ } .rr fun r =>
    { runningAt 600 (primed 2048 0 0) r with openCount := 2, regulationCount := 3, lastExpiry := some 750 }

theorem test_cycleExpiry_open_coil :
    let t := after (.cycleExpiry .rr 2048 40) wheelThree
    (wheelOf t .rr).state = .failsafe ∧ (wheelOf t .rr).latch = true ∧ (wheelOf t .rr).driver = ⟨false, 0⟩ ∧
      (wheelOf t .rr).regulationCount = 4 ∧ (wheelOf t .rr).openCount = 3 ∧ (wheelOf t .rr).target = 600 ∧
      t.errors.wheel.rr = ⟨true, true, false, .coilOpen, false, 0⟩ := by decide +kernel

theorem test_shortDetected :
    let t := after (.shortDetected .fl) (modifyWheel (rig .run) .fl (runningAt 1156 (primed 2048 0 0)))
    (wheelOf t .fl).state = .failsafe ∧ (wheelOf t .fl).target = 1156 ∧ t.errors.wheel.fl.code = .coilShort ∧
      (portOf t .a).edges.bankLogged = true ∧ alertOf t .b = true := by decide +kernel

/-! Chapter 6: Table 6-5. -/

theorem test_modeRun_bad_slot :
    let s := withParam (.mapselA .rl) 5 (withSlot 1 [] (withSlot 0 [] (rig .config)))
    answer .a (.modeRun (from_ .a)) s = (.badArg, 5) := by decide +kernel

theorem test_modeRun_granted :
    let t := after (.modeRun (from_ .a)) (withSlot 1 [] (withSlot 0 [] (rig .config)))
    slot .a t = (.ok, 1) ∧ t.mode = .run ∧ (portOf t .c).edges.modeChanged = true := by decide +kernel

theorem test_modeCalibrate :
    answer .a (.modeCalibrate (from_ .a)) (rig .run) = (.notPermitted, 1) ∧
      answer .a (.modeCalibrate (from_ .a)) { rig .run with calEn := true } = (.ok, 2) := by decide +kernel

theorem test_modeConfig_rolling :
    answer .a (.modeConfig (from_ .a)) { rig .run with travel := ⟨0, 0, 0, false, none⟩ } = (.notPermitted, 1) ∧
      answer .a (.modeConfig (from_ .a)) (rig .shutdown) = (.notPermitted, 0) := by decide +kernel

theorem test_modeInvalidRequest : answer .a (.modeInvalidRequest (from_ .a) 3) (rig .run) = (.badArg, 1) := by decide +kernel

theorem test_calEnFall :
    let t := after .calEnFall { edited with calEn := true }
    t.mode = .run ∧ (bankOf t 0).binding = none ∧ Memory.read (slotOf t 0).entries 49 = 700 := by decide +kernel

theorem test_calEnRise : (after .calEnRise (rig .run)).calEn = true ∧ (after .calEnRise (rig .run)).mode = .run := by
  decide +kernel

theorem test_safeAsserted :
    let t := after .safeAsserted (modifyWheel ridden .fl (runningAt 600 (primed 2048 0 0)))
    t.mode = .shutdown ∧ (wheelOf t .fl).driver = ⟨false, 0⟩ ∧ demandOf t .fl .ride = none ∧ t.timer.running = false := by
  decide +kernel

theorem test_safeReleased : (after .safeReleased { rig .shutdown with safeLow := true }).mode = .shutdown := by decide +kernel

/-! Chapter 7: Table 7-12, sections 7.4 and 7.7. -/

theorem test_nop : answer .a (.nop (from_ .a) 0) (rig .config) = (.ok, 0) := by decide +kernel

theorem test_select :
    let t := after (.select (from_ .a) 0x00F) (rig .config)
    slot .a t = (.ok, 0x000F) ∧ (portOf t .a).pointer = 0x00F ∧ (portOf t .a).linkTimer = some 50 := by decide +kernel

theorem test_put_clamped :
    let t := after (.put (from_ .a) 20) (pointed 0x00F (rig .config))
    slot .a t = (.clamped, 0x0010) ∧ param t .kFilt = 16 ∧ (portOf t .a).pointer = 0x010 := by decide +kernel

theorem test_get_vlsb : answer .a (.get (from_ .a) 0) (pointed 0x010 (rig .config)) = (.ok, 0x0006) := by decide +kernel

theorem test_framingError :
    let t := after (.framingError .a (List.replicate 31 true)) (rig .config)
    slot .a t = (.frameError, 0) ∧ (portOf t .a).response.tag = 7 ∧ t.errors.link = ⟨true, false, false, .frameLength, true, 1⟩ ∧
      (portOf t .a).linkTimer = none := by decide +kernel

theorem test_chipSelectFall :
    let t := after (.chipSelectFall .a) (rig .config)
    sdoBit t .a 0 = some true ∧ sdoBit t .a 1 = some false ∧ sdoBit t .a 3 = some true ∧ sdoBit t .a 32 = some false := by
  decide +kernel

theorem test_unassignedCommand :
    answer .a (.unassignedCommand (from_ .a) 0x13 5) (rig .config) = (.notPermitted, 0) := by decide +kernel

/-- Table 10-6, boundary 8050. -/
theorem test_linkTimerExpiry :
    let s := modifyPort { ridden with msCount := 8050 } .a fun r => { r with linkTimer := some 8050 }
    let t := after (.linkTimerExpiry .a) s
    demandOf t .fl .ride = none ∧ (portOf t .a).link = .silent ∧ (portOf t .b).edges.linkLost = true ∧
      (portOf t .a).edges = { EdgeSet.none with bankLogged := true } ∧
      t.errors.link = ⟨true, false, false, .linkSilent, true, 1⟩ := by decide +kernel

theorem test_resetEnd_conflict :
    let t := after (.resetEnd 1 1 3) State.reset
    (portOf t .a).role = .ride ∧ (portOf t .b).role = .none ∧ (portOf t .c).role = .preview ∧
      t.errors.link = ⟨true, false, false, .roleConflict, true, 2⟩ ∧ (portOf t .a).edges.bankLogged = true := by decide +kernel

theorem test_resetEnd_response :
    let t := after (.resetEnd 1 2 3) State.reset
    slot .a t = (.noRequest, 0) ∧ t.mode = .loading ∧ t.store.status = .busy ∧ (portOf t .b).role = .stability := by
  decide +kernel

/-! Chapter 8: Table 8-4. -/

/-- Wheel 1 in FAILSAFE, port A silent since, port B having been told of the first. -/
def told : State :=
  modifyPort (modifyWheel (rig .run) .fr fun r => { r with state := .failsafe, latch := true }) .b fun x =>
    { x with reported := { MarkSet.none with wheelFailsafe := true }, edges := { EdgeSet.none with linkLost := true } }

theorem test_notice_returns_link_lost :
    let t := after (.notice (from_ .b) 0) told
    slot .b t = (.ok, 2) ∧ answer .b (.notice (from_ .b) 0) t = (.ok, 15) := by decide +kernel

theorem test_noticeMask :
    let t := after (.noticeMask (from_ .b) 1) told
    slot .b t = (.ok, 1) ∧ alertOf told .b = true ∧ alertOf t .b = false := by decide +kernel

/-- Table 10-1, step 8, and Table 8-3 for a wheel bank. -/
theorem test_clearBank :
    let s := setErrorBank (rig .config) .store ⟨true, false, false, .slotBad, true, 6⟩
    let t := after (.clearBank (from_ .a) 5) s
    slot .a t = (.ok, 11) ∧ t.errors.store = ErrorRecord.clear := by decide +kernel

theorem test_clearBank_latch :
    (wheelOf (after (.clearBank (from_ .a) 1) told) .fr).latch = false ∧
      (wheelOf (after (.clearBank (from_ .a) 1) told) .fr).state = .failsafe := by decide +kernel

/-! Chapter 9: Table 9-2, R154. -/

/-- Slot 3 VALID in CALIBRATE. -/
def bench : State := withSlot 3 [(0, 5)] (rig .calibrate)

/-- A programming of slot 3 in flight. -/
def programming : State :=
  { bench with store := { bench.store with operation := some ⟨.a, .slot 3 [(0, 5)]⟩, status := .busy } }

theorem test_storeProgram :
    answer .a (.storeProgram (from_ .a) 3) bench = (.accepted, 3) ∧
      answer .a (.storeProgram (from_ .a) 8) programming = (.busy, 0) := by decide +kernel

theorem test_storeAbort :
    let t := after (.storeAbort (from_ .a) 0) programming
    slot .a t = (.ok, 3) ∧ t.store.status = .aborted ∧ t.store.slotImages[3] = .invalid ∧
      t.errors.store = ⟨true, false, false, .programAborted, true, 3⟩ ∧ (portOf t .a).edges.storeDone = true := by
  decide +kernel

theorem test_storeCompletion_failed :
    let t := after (.storeCompletion false) programming
    t.store.status = .failed ∧ t.errors.store = ⟨true, true, false, .programVerify, true, 3⟩ ∧
      (portOf t .a).edges.storeDone = true := by decide +kernel

/-- The load at one of its steps. -/
def loading (step : LoadStep) : State :=
  { rig .loading with store := { (rig .loading).store with status := .busy, load := some step } }

theorem test_parameterBlockLoad_bad :
    let t := after .parameterBlockLoad (loading .parameterBlock)
    t.errors.store.code = .paramBad ∧ t.params = paramDefaults ∧ t.store.load = some (.slot 0) := by decide +kernel

theorem test_slotLoad_bad :
    let t := after (.slotLoad 6) (loading (.slot 6))
    t.errors.store = ⟨true, false, false, .slotBad, true, 6⟩ ∧ t.store.load = some (.slot 7) := by decide +kernel

theorem test_loadCompletion :
    let t := after .loadCompletion (loading .completion)
    t.mode = .config ∧ t.store.status = .ok ∧ t.timer.running = true ∧ (portOf t .b).edges.modeChanged = true := by
  decide +kernel

theorem test_powerOnReset :
    let s := setErrorBank ridden .link ⟨true, false, false, .linkSilent, true, 1⟩
    (after .powerOnReset s).errors.link = ErrorRecord.clear ∧ (after .powerOnReset s).mode = .loading := by decide +kernel

theorem test_resetLineReset :
    let s := setErrorBank ridden .link ⟨true, false, false, .linkSilent, true, 1⟩
    (after .resetLineReset s).errors.link.code = .linkSilent ∧ demandOf (after .resetLineReset s) .fl .ride = none := by
  decide +kernel

/-- A frame that ends while a reset lasts is not taken (log 15). -/
theorem test_frame_in_reset : (portOf (after (.select (from_ .a) 5) State.reset) .a).pointer = 0 := by decide +kernel

/-! Witnesses: for each statement with hypotheses, operands and states that meet them. -/

theorem roles_of {s : State} (a : (portOf s .a).role = .ride) (b : (portOf s .b).role = .stability)
    (c : (portOf s .c).role = .preview) : RolesDistinct s := by
  intro p q; cases p <;> cases q <;> simp [a, b, c]

theorem witness_StepTakesTheFrontCommand :
    ({ rig .run with pending := [.advance] } : State).pending = .advance :: [] ∧ State.reset.pending = [] := by decide

theorem witness_NopAndUnassignedCodesOnlyAnswer :
    Receives (rig .config) (from_ .a).port ∧ 0x13 ≤ (0x13#5).toNat ∧ 0x13 ≤ (0x1F#5).toNat := by decide

theorem witness_UnadmittedFramesAreRefused :
    frameOf (.put (from_ .b) 0) = some (from_ .b, .put) ∧ Receives (rig .config) (from_ .b).port ∧
      ¬ TableAdmits .put (portOf (rig .config) (from_ .b).port).role (rig .config).mode ∧
      frameOf (.overlayCommit (from_ .a) 0) = some (from_ .a, .overlay) ∧
      ¬ TableAdmits .overlay (portOf (rig .run) (from_ .a).port).role (rig .run).mode := by decide

theorem witness_UntakenTransactionsOnlyEnd :
    (∃ h c, frameOf (.nop (from_ .a) 0) = some (h, c) ∧ h.port = .a) ∧ ¬ Receives State.reset .a ∧
      (∃ bits, Instr.framingError .a [] = .framingError .a bits) ∧
      ¬ Receives (modifyPort (rig .run) .a fun x => { x with transaction := .lost }) .a :=
  ⟨⟨from_ .a, .nop, rfl, rfl⟩, by decide, ⟨[], rfl⟩, by decide⟩

theorem witness_ChipSelectFallTakesTheResponse : State.reset.inReset = true ∧ (rig .run).inReset = false := by decide

theorem witness_SetLevelSetsTheNamedRideRecords :
    Receives (rig .run) (from_ .b).port ∧ ¬ ((portOf (rig .run) .b).role = .ride ∧ OperatingMode (rig .run).mode) ∧
      Receives (rig .config) (from_ .a).port ∧ (portOf (rig .config) .a).role = .ride ∧ OperatingMode (rig .config).mode ∧
      (from_ .a).mask = 0 ∧ (from_ .a 15).mask ≠ 0 := by decide

theorem witness_SetFloorSetsTheNamedStabilityRecords :
    Receives (rig .run) (from_ .a).port ∧ ¬ ((portOf (rig .run) .a).role = .stability ∧ OperatingMode (rig .run).mode) ∧
      Receives (rig .config) (from_ .b).port ∧ (portOf (rig .config) .b).role = .stability ∧
      OperatingMode (rig .config).mode ∧ (from_ .b).mask = 0 ∧ (from_ .b 1).mask ≠ 0 ∧
      (⟨.b, 0, none, 5⟩ : DemandRecord).level = 0 := by decide

theorem witness_ReleaseRemovesTheNamedRecords :
    Receives (rig .run) (from_ .c).port ∧
      ¬ (((portOf (rig .run) .c).role = .ride ∨ (portOf (rig .run) .c).role = .stability) ∧ OperatingMode (rig .run).mode) ∧
      Receives ridden (from_ .a).port ∧ (portOf ridden .a).role = sourceRole .ride ∧ OperatingMode ridden.mode ∧
      Receives ridden (from_ .b).port ∧ (portOf ridden .b).role = sourceRole .stability ∧
      (from_ .a).mask = 0 ∧ (from_ .b 15).mask ≠ 0 := by decide

theorem witness_DemandRecordsExpireAtTheirBoundary :
    ridden.inReset = false ∧ ({ ridden with msCount := 2378 } : State).msCount + 1 < 2380 ∧
      demandOf { ridden with msCount := 2380 } .fl .ride = some ⟨.a, 420, some true, 2380⟩ ∧
      ({ ridden with msCount := 2380 } : State).inReset = false ∧ 2380 ≤ ({ ridden with msCount := 2380 } : State).msCount := by
  decide

/-- The least hold, for the last wheel of each source, with the pointer at the record's remaining time. -/
theorem witness_DemandRecordsExpireAtTheirBoundary_hold :
    let s := pointed 0x174 (withParam .holdRide 1 (rig .config))
    let u := pointed 0x17C (withParam .holdStab 1 (rig .calibrate))
    SentAs s (from_ .a 8) (sourceRole .ride) ∧ OperatingMode s.mode ∧ (from_ .a 8).mask.getLsbD Wheel.rr.num = true ∧
      0 < 10 * param s .holdRide ∧ Receives (after (.setLevel (from_ .a 8) 0) s) .c ∧
      (portOf (after (.setLevel (from_ .a 8) 0) s) .c).pointer.toNat = 0x140 + Wheel.rr.num * 0x10 + 0 + 4 ∧
      SentAs u (from_ .b 8) (sourceRole .stability) ∧ OperatingMode u.mode ∧ 0 < 10 * param u .holdStab ∧
      (portOf (after (.setFloor (from_ .b 8) 0) u) .c).pointer.toNat = 0x140 + Wheel.rr.num * 0x10 + 8 + 4 := by
  decide +kernel

theorem witness_EventsThatAreNotDueDoNothing_states :
    State.reset.inReset = true ∧ Instr.travelPulse ∈ ([.travelPulse, .advance, .standstillExpiry, .periodStart,
        .parameterBlockLoad, .loadCompletion, .millisecondBoundary] : List Instr) ∧
      (rig .run).travel.advances = 0 ∧ (rig .shutdown).timer.running = false ∧
      (wheelOf (rig .run) .fl).driver.regulating = false ∧ (rig .run).store.operation = none ∧
      (rig .run).store.load ≠ some .parameterBlock ∧ (rig .run).store.load ≠ some (.slot 0) ∧
      (loading (.slot 7)).store.load ≠ some (.slot 6) ∧ (rig .run).store.load ≠ some .completion ∧
      (rig .run).inReset = false := by decide

theorem witness_EventsThatAreNotDueDoNothing_timers :
    (∀ r, demandOf ridden .fl .ride = some r → ridden.msCount < r.expiry) ∧
      (∀ n, (portOf (modifyPort (rig .run) .a fun x => { x with linkTimer := some 1 }) .a).linkTimer = some n → 0 < n) ∧
      (∀ n, ({ rig .run with travel := ⟨0, 0, 0, false, some 1⟩ } : State).travel.standstillTimer = some n → 0 < n) := by
  refine ⟨fun r h => ?_, fun n h => ?_, fun n h => ?_⟩ <;> cases h <;> decide

/-- A wheel that had its expiry at the start of this period has none left in it. -/
theorem witness_EventsThatAreNotDueDoNothing_expiry :
    ∀ d, ¬ ExpiryComes (modifyWheel (rig .run) .fl fun r => { r with lastExpiry := some 0 }) .fl d :=
  fun _ h => absurd (h.once 0 rfl) (by decide)

theorem witness_PreviewLevelAndSpanStage :
    Receives (rig .run) (from_ .a).port ∧ ¬ ((portOf (rig .run) .a).role = .preview ∧ WheelMode (rig .run).mode) ∧
      Receives (rig .run) (from_ .c).port ∧ (portOf (rig .run) .c).role = .preview ∧ WheelMode (rig .run).mode ∧
      (1 : BitVec 12) ≠ 0 ∧ (0 : BitVec 12) = 0 := by decide

theorem witness_PreviewAtIsCheckedInOrder :
    Receives (rig .config) (from_ .c).port ∧ ¬ ((portOf (rig .config) .c).role = .preview ∧ WheelMode (rig .config).mode) ∧
      Receives (rig .calibrate) (from_ .c).port ∧ (portOf (rig .calibrate) .c).role = .preview ∧
      WheelMode (rig .calibrate).mode ∧ (from_ .c).mask = 0 ∧ (from_ .c 2).mask ≠ 0 ∧
      ¬ ((portOf (rig .calibrate) .c).staging.levelStaged = true ∧ (portOf (rig .calibrate) .c).staging.spanStaged = true) := by
  decide

theorem witness_PreviewAtIsCheckedInOrder_staged :
    let s := staged (withQueue .fr dozen (rig .run))
    Receives s (from_ .c).port ∧ (portOf s .c).role = .preview ∧ WheelMode s.mode ∧ (from_ .c 2).mask ≠ 0 ∧
      ((portOf s .c).staging.levelStaged = true ∧ (portOf s .c).staging.spanStaged = true) ∧
      (∃ w, (from_ .c 2).mask.getLsbD w.num = true ∧ 12 ≤ (queueOf s w).length) ∧
      ¬ ∃ w, (from_ .c 13).mask.getLsbD w.num = true ∧ 12 ≤ (queueOf s w).length := by
  dsimp only
  and_intros <;> try decide +kernel
  · exact ⟨.fr, by decide +kernel⟩
  · rintro ⟨w, h⟩
    revert h
    cases w <;> decide +kernel

theorem defaults_inRange : ParamsInRange paramDefaults := by
  intro k; cases k <;> (try (rename_i x; cases x)) <;> decide +kernel

theorem witness_PreviewAtInsertsItemsAndCopies :
    SentAs bumped (from_ .c 1) .preview ∧ WheelMode bumped.mode ∧ RolesDistinct bumped ∧ ParamsInRange bumped.params ∧
      (from_ .c 1).mask ≠ 0 ∧ (portOf bumped (from_ .c 1).port).staging.levelStaged = true ∧
      (portOf bumped (from_ .c 1).port).staging.spanStaged = true ∧
      (∀ w, (from_ .c 1).mask.getLsbD w.num = true → (queueOf bumped w).length < 12) := by
  and_intros <;> first
    | decide +kernel
    | exact roles_of rfl rfl rfl
    | exact defaults_inRange
    | exact forWheels (by decide +kernel) (by decide +kernel) (by decide +kernel) (by decide +kernel)

/-- Both boundaries of the clause on copies: a rear queue with room and one without. -/
theorem witness_PreviewAtInsertsItemsAndCopies_clauses :
    let g := (portOf bumped .c).staging
    g.copyFlag = true ∧ Wheel.fl.rearPartner = some .rl ∧ (from_ .c 1).mask.getLsbD Wheel.fl.num = true ∧
      ¬ (from_ .c 1).mask.getLsbD Wheel.rl.num = true ∧ (queueOf bumped .rl).length < 12 ∧
      12 ≤ (queueOf (withQueue .rl dozen bumped) .rl).length := by decide +kernel

theorem witness_PreviewCancelEmptiesTheNamedQueues :
    Receives (rig .run) (from_ .b).port ∧ ¬ ((portOf (rig .run) .b).role = .preview ∧ WheelMode (rig .run).mode) ∧
      Receives bumped (from_ .c).port ∧ (portOf bumped .c).role = .preview ∧ WheelMode bumped.mode ∧
      (from_ .c).mask = 0 ∧ (from_ .c 1).mask ≠ 0 := by decide +kernel

theorem witness_IndexPointerFollowsItsPortsFrames :
    Receives (rig .run) (from_ .a).port ∧ exec (.select (from_ .a) 5) (rig .run) = .next (after (.select (from_ .a) 5) (rig .run)) ∧
      (portOf (after (.select (from_ .a) 5) (rig .run)) .a).pointer ≠ (portOf (rig .run) .a).pointer ∧
      (portOf (after .powerOnReset (pointed 5 (rig .run))) .a).pointer ≠ (portOf (pointed 5 (rig .run)) .a).pointer := by
  and_intros <;> first | decide +kernel | exact rfl

theorem witness_PutStoresAParameter :
    SentAs (pointed 0x01F (rig .run)) (from_ .a) .ride ∧ OperatingMode (pointed 0x01F (rig .run)).mode ∧
      (portOf (pointed 0x01F (rig .run)) .a).pointer.toNat = paramIndex (.trim .rr) ∧ paramLive (.trim .rr) = true ∧
      SentAs (pointed 0x000 (rig .config)) (from_ .a) .ride ∧ (rig .config).mode = .config ∧
      (portOf (pointed 0x000 (rig .config)) .a).pointer.toNat = paramIndex .cycleUs ∧
      (rig .run).mode ≠ .config ∧ paramLive .cycleUs = false ∧
      (portOf (pointed 0x020 (rig .run)) .a).pointer.toNat = paramIndex (.imin .front) ∧
      getParam (rig .run).params (.imax .front) < max (paramLo (.imin .front)) (min 1801 (paramHi (.imin .front))) := by
  decide +kernel

/-- Both ends of the two read-only ranges. -/
theorem witness_PutStoresAParameter_readOnly :
    0x32 ≤ (portOf (pointed 0x032 (rig .run)) .a).pointer.toNat ∧ (portOf (pointed 0x1FF (rig .run)) .a).pointer.toNat < 0x200 ∧
      0xB90 ≤ (portOf (pointed 0xB90 (rig .run)) .a).pointer.toNat := by decide +kernel

/-- A memory of no entries and the entries of the worked cases keep the form. -/
theorem small_memories_lawful : MemoryLawful [] ∧ MemoryLawful [(49, 700)] ∧ MemoryLawful [(49, 760)] ∧ MemoryLawful worked := by
  unfold MemoryLawful; decide +kernel

theorem maps_lawful_of {s : State} (slots : ∀ k, Memory.wf (slotOf s k).entries = true ∧ Memory.inRange (slotOf s k).entries = true)
    (banks : ∀ b, Memory.wf (bankOf s b).entries = true ∧ Memory.inRange (bankOf s b).entries = true)
    (images : ∀ k : Fin 8, s.store.slotImages[k] = .invalid) (idle : s.store.operation = none) : MapsLawful s := by
  refine ⟨slots, banks, fun k m crc h => ?_, fun o k m h => ?_⟩
  · rw [images k] at h
    cases h
  · rw [idle] at h
    cases h

theorem edited_maps_lawful : MapsLawful (pointed 0x231 edited) := by
  apply maps_lawful_of <;> decide +kernel

theorem witness_MapPutWritesByMode_calibrate :
    let s := pointed 0x231 edited
    Receives s (from_ .a).port ∧ MapsLawful s ∧ 49 < 306 ∧ (portOf s .a).pointer.toNat = 0x200 + (0 : Fin 8).val * 306 + 49 ∧
      (portOf s .a).role = .ride ∧ s.mode = .calibrate ∧ (bankOf s 0).binding = some 0 ∧
      (∀ c, (bankOf s c).binding = some 0 → c = 0) := by
  exact ⟨by decide +kernel, edited_maps_lawful, by decide +kernel⟩

/-- The last entry of the last slot, in CONFIG, in RUN, and from a port without the role. -/
theorem witness_MapPutWritesByMode_config :
    let s := pointed 0xB8F (rig .config)
    Receives s (from_ .a).port ∧ MapsLawful s ∧ 305 < 306 ∧ (portOf s .a).pointer.toNat = 0x200 + (7 : Fin 8).val * 306 + 305 ∧
      (portOf s .a).role = .ride ∧ s.mode = .config ∧ (rig .run).mode = .run ∧
      (¬ ∃ b, (bankOf (rig .calibrate) b).binding = some 7) ∧ Receives s (from_ .b).port ∧
      ¬ ((portOf s .b).role = .ride ∧ OperatingMode s.mode) := by
  refine ⟨by decide +kernel, ?maps, by decide +kernel⟩
  apply maps_lawful_of <;> decide +kernel

/-- Each clause of the GETs at the first and last of its indices. -/
theorem witness_GetReadsParametersMapsAndDevice :
    let At := fun (x : BitVec 12) (n : Nat) => (portOf (pointed x (rig .run)) .b).pointer.toNat = n
    Receives (pointed 0 (rig .run)) (from_ .b).port ∧ At 0x000 (paramIndex .cycleUs) ∧ At 0x031 (paramIndex .band) ∧
      At 0x200 (0x200 + (0 : Fin 8).val * 306 + 0) ∧ At 0xB8F (0x200 + (7 : Fin 8).val * 306 + 305) ∧
      At 0xC00 (0xC00 + (0 : Fin 2).val * 306 + 0) ∧ At 0xE63 (0xC00 + (1 : Fin 2).val * 306 + 305) ∧
      At 0x100 0x100 ∧ At 0x101 0x101 ∧ At 0x102 0x102 ∧ At 0x103 0x103 ∧ At 0x104 0x104 ∧
      At 0x105 (0x105 + (0 : Fin 2).val) ∧ At 0x106 (0x105 + (1 : Fin 2).val) ∧ At 0x107 0x107 ∧
      At 0x108 (0x108 + Wheel.fl.num) ∧ At 0x10B (0x108 + Wheel.rr.num) ∧ At 0x10C (0x10C + Wheel.fl.num) ∧
      At 0x10F (0x10C + Wheel.rr.num) ∧ At 0x13F 0x13F := by decide +kernel

theorem witness_GetReadsParametersMapsAndDevice_unmapped :
    (∀ x ∈ [0x032, 0x0FF, 0x116, 0x13E, 0x145, 0x17F, 0x194, 0x1FF, 0xB90, 0xBFF, 0xE64, 0xFFF], UnmappedIndex x) ∧
      ∀ x ∈ [0x13F, 0x13D, 0x1F3], ¬ UnmappedIndex x := by
  decide +kernel

theorem witness_GetReadsParametersMapsAndDevice_bound :
    (pointed 0x231 edited).mode = .calibrate ∧ (bankOf edited 0).binding = some 0 ∧
      (∀ c, (bankOf edited c).binding = some 0 → c = 0) ∧ (rig .run).mode ≠ .calibrate ∧
      ¬ ∃ b, (bankOf edited b).binding = some 7 := by decide +kernel

/-- The first and last field of each kind of record. -/
theorem witness_GetReadsTheRecords :
    let At := fun (x : BitVec 12) (n : Nat) => (portOf (pointed x ridden) .b).pointer.toNat = n
    Receives (pointed 0x140 ridden) (from_ .b).port ∧
      (demandFields ridden (demandOf ridden .fl .ride))[0]? = some 1 ∧ At 0x140 (0x140 + Wheel.fl.num * 0x10 + 0 + 0) ∧
      (demandFields ridden (demandOf ridden .rr .stability))[4]? = some 0 ∧ At 0x17C (0x140 + Wheel.rr.num * 0x10 + 8 + 4) ∧
      (bankFields (errorBank ridden (.wheel .fl)))[0]? = some 0 ∧ At 0x110 (0x110 + bankNum (.wheel .fl) * 8 + 0) ∧
      (bankFields (errorBank ridden .store))[5]? = some 0 ∧ At 0x13D (0x110 + bankNum .store * 8 + 5) ∧
      (wheelFields (wheelOf ridden .fl))[0]? = some 0 ∧ At 0x180 (0x180 + Wheel.fl.num * 0x20 + 0) ∧
      (wheelFields (wheelOf ridden .rr))[19]? = some 0 ∧ At 0x1F3 (0x180 + Wheel.rr.num * 0x20 + 19) := by decide +kernel

/-- A part that passes the five checks of Table 6-3. -/
def consistentRig : State := withSlot 1 [] (withSlot 0 [] (rig .config))

/-- The five checks from what can be evaluated. -/
theorem passes_of {s : State} (geometry : param s .llsb + param s .llen ≤ 10)
    (currents : param s (.imin .front) ≤ param s (.imax .front) ∧ param s (.imin .rear) ≤ param s (.imax .rear))
    (phases : ∀ w ∈ Wheel.all, param s (.phase w) < param s .cycleUs) (sensor : param s .senseLo < param s .senseHi)
    (slots : ∀ w ∈ Wheel.all, (slotOf s (Fin.ofNat 8 (param s (.mapselA w)))).valid = true ∧
      (slotOf s (Fin.ofNat 8 (param s (.mapselB w)))).valid = true) : ∀ n, CheckPasses s n
  | 1 => geometry
  | 2 => currents
  | 3 => fun w => phases w (by cases w <;> decide)
  | 4 => sensor
  | 5 => fun w => slots w (by cases w <;> decide)
  | 0 | _ + 6 => trivial

theorem consistentRig_passes : ∀ n, CheckPasses consistentRig n := by
  apply passes_of <;> decide +kernel

theorem witness_ModeRunFromConfigIsChecked :
    SentAs consistentRig (from_ .a) .ride ∧ consistentRig.mode = .config ∧
      ∀ n, 1 ≤ n → n ≤ 5 → CheckPasses consistentRig n :=
  ⟨by decide +kernel, by decide, fun n _ _ => consistentRig_passes n⟩

/-- The first and the last of the checks, each the first to fail. -/
theorem witness_ModeRunFromConfigIsChecked_fails :
    (¬ CheckPasses (withParam .llsb 8 consistentRig) 1) ∧ (¬ CheckPasses (rig .config) 5) ∧
      ∀ m, 1 ≤ m → m < 5 → CheckPasses (rig .config) m := by
  refine ⟨?_, fun h => ?_, fun m h1 h5 => ?_⟩
  · show ¬ param _ .llsb + param _ .llen ≤ 10
    decide +kernel
  · exact absurd (h .fl).1 (by decide +kernel)
  · have h := consistentRig_passes m
    have : m = 1 ∨ m = 2 ∨ m = 3 ∨ m = 4 := by omega
    rcases this with rfl | rfl | rfl | rfl <;> exact h

theorem witness_CalibrateIsEnteredAndLeft :
    let s : State := { rig .run with calEn := true }
    SentAs s (from_ .a) .ride ∧ s.mode = .run ∧ s.calEn = true ∧ s.travel.standstill = true ∧
      SentAs (rig .run) (from_ .a) .ride ∧ (rig .run).mode = .run ∧
      ¬ ((rig .run).calEn = true ∧ (rig .run).travel.standstill = true) ∧ SentAs (rig .config) (from_ .a) .ride ∧
      (rig .config).mode = .config ∧ SentAs edited (from_ .a) .ride ∧ edited.mode = .calibrate := by decide +kernel

theorem witness_ModeConfigStopsTheWheels :
    let s : State := { rig .run with travel := ⟨0, 0, 0, false, none⟩ }
    SentAs s (from_ .a) .ride ∧ WheelMode s.mode ∧ s.travel.standstill = false ∧ SentAs edited (from_ .a) .ride ∧
      WheelMode edited.mode ∧ edited.travel.standstill = true := by decide +kernel

theorem witness_ModeRequestsReadBackTheMode :
    SentAs (rig .run) (from_ .a) .ride ∧ OperatingMode (rig .run).mode ∧ 3 ≤ (3 : BitVec 12).toNat ∧
      3 ≤ (4095 : BitVec 12).toNat ∧ (1 : BitVec 12).toNat = modeCode (rig .run).mode ∧
      (Instr.modeConfig (from_ .a) = .modeConfig (from_ .a) ∧ (0 : BitVec 12) = 0) := by decide

theorem witness_NoticeReturnsTheMostUrgentCause :
    Receives told (from_ .b).port ∧ (portOf told .b).role ≠ .none ∧ Waiting told .b (.edge .linkLost) ∧
      (∀ c', Waiting told .b c' → causeNum (.edge .linkLost) ≤ causeNum c') := by
  refine ⟨by decide +kernel, by decide +kernel, ⟨by decide +kernel, fun l h => by cases h⟩, fun c h => ?_⟩
  obtain ⟨h1, h2⟩ := h
  cases c with
  | level l =>
    have h3 := h2 l rfl
    revert h1 h3
    cases l <;> decide +kernel
  | edge e => cases e <;> decide

theorem witness_NoticeReturnsTheMostUrgentCause_none :
    Receives (rig .run) (from_ .b).port ∧ (portOf (rig .run) .b).role ≠ .none ∧ ∀ c, ¬ Waiting (rig .run) .b c := by
  refine ⟨by decide, by decide, fun c h => ?_⟩
  have h1 := h.1
  revert h1
  cases c with
  | level l => cases l <;> decide +kernel
  | edge e => cases e <;> decide +kernel

theorem witness_NoticeMaskGovernsAlert :
    Receives (rig .run) (from_ .b).port ∧ (portOf (rig .run) .b).role ≠ .none ∧ 9 < (10 : BitVec 12).toNat ∧
      (9 : BitVec 12).toNat ≤ 9 ∧ (0 : BitVec 12).toNat ≤ 9 := by decide

theorem witness_ClearBankEmptiesABank :
    SentAs (rig .shutdown) (from_ .a) .ride ∧ (rig .shutdown).mode ≠ .loading ∧ 5 < (6 : BitVec 12).toNat ∧
      (5 : BitVec 12).toNat = bankNum .store ∧ (0 : BitVec 12).toNat = bankNum (.wheel .fl) := by decide

theorem witness_StoreProgramCapturesItsTarget :
    SentAs bench (from_ .a) .ride ∧ (bench.mode = .config ∨ bench.mode = .calibrate) ∧ 8 < (9 : BitVec 12).toNat ∧
      bench.store.status ≠ .busy ∧ (8 : BitVec 12).toNat = 8 ∧ (3 : BitVec 12).toNat = (3 : Fin 8).val ∧
      (slotOf bench 3).valid = true ∧ (7 : BitVec 12).toNat = (7 : Fin 8).val ∧ (slotOf bench 7).valid = false ∧
      SentAs programming (from_ .a) .ride ∧ (8 : BitVec 12).toNat ≤ 8 ∧ programming.store.status = .busy := by decide +kernel

theorem witness_StoreOperationsEnd :
    SentAs bench (from_ .a) .ride ∧ OperatingMode bench.mode ∧ RolesDistinct bench ∧ bench.store.operation = none ∧
      SentAs programming (from_ .a) .ride ∧ OperatingMode programming.mode ∧ RolesDistinct programming ∧
      programming.inReset = false ∧ programming.store.operation = some ⟨.a, .slot 3 [(0, 5)]⟩ := by
  and_intros <;> first | decide +kernel | exact roles_of rfl rfl rfl

theorem witness_OverlayCommandsBindAndCommit :
    SentAs edited (from_ .a) .ride ∧ edited.mode = .calibrate ∧ 1 < (2 : BitVec 4).toNat ∧
      (1 : BitVec 4).toNat = (1 : Fin 2).val ∧ 8 ≤ (8 : BitVec 4).toNat ∧ (14 : BitVec 4).toNat ≤ 14 ∧
      (0 : BitVec 4).toNat = (0 : Fin 8).val ∧ (∃ c, c ≠ (1 : Fin 2) ∧ (bankOf edited c).binding = some 0) ∧
      (7 : BitVec 4).toNat = (7 : Fin 8).val ∧ (¬ ∃ c, c ≠ (1 : Fin 2) ∧ (bankOf edited c).binding = some 7) ∧
      1 < (2 : BitVec 12).toNat ∧ (1 : BitVec 12).toNat = (1 : Fin 2).val ∧ (bankOf edited 1).binding = none ∧
      (0 : BitVec 12).toNat = (0 : Fin 2).val ∧ (bankOf edited 0).binding = some 0 := by decide +kernel

theorem witness_FramingErrorsAreLoggedAndAnswered :
    Receives (rig .config) .a ∧ RolesDistinct (rig .config) ∧ ¬ isGoodFrame [] = true ∧
      ¬ isGoodFrame (List.replicate 32 true) = true ∧ ¬ isGoodFrame (List.replicate 33 true) = true := by
  and_intros <;> first | decide +kernel | exact roles_of rfl rfl rfl

theorem witness_LinkTimerExpirySilencesAPort :
    let s := modifyPort { ridden with msCount := 8050 } .b fun r => { r with linkTimer := some 8050 }
    s.inReset = false ∧ RolesDistinct s ∧ (portOf s .b).linkTimer = some 8050 ∧ 8050 ≤ s.msCount := by
  dsimp only
  and_intros <;> first | decide +kernel | exact roles_of rfl rfl rfl

theorem witness_SafeEntersShutdown :
    State.reset.inReset = true ∧ programming.inReset = false ∧ RolesDistinct programming ∧ programming.mode ≠ .shutdown ∧
      programming.store.operation = some ⟨.a, .slot 3 [(0, 5)]⟩ ∧ (rig .loading).inReset = false ∧
      RolesDistinct (rig .loading) ∧ (rig .loading).mode ≠ .shutdown ∧ (rig .loading).store.operation = none := by
  and_intros <;> first | decide +kernel | exact roles_of rfl rfl rfl

theorem witness_LineChangesActByMode :
    edited.inReset = false ∧ edited.mode = .calibrate ∧ (rig .run).mode ≠ .calibrate ∧ (rig .shutdown).mode = .shutdown ∧
      State.reset.inReset = true := by
  decide +kernel

theorem witness_PulsesAndStandstill :
    let s : State := withParam .travelStep 4095 { rig .run with travel := ⟨0, 999, 0, false, some 7⟩, msCount := 7 }
    s.inReset = false ∧ s.travel.accumulator ≤ 999 ∧ param s .travelStep ≤ 4095 ∧
      s.travel.standstillTimer = some 7 ∧ 7 ≤ s.msCount := by decide +kernel

/-- P = 0 with one fixed advance, an ACTIVE item behind and a PENDING one ahead in queue 0. -/
def rolling : State :=
  staged (withQueue .fl [item 0xFFFFF0 100 700 true 3, item 5 10 300 false 4]
    { rig .run with travel := ⟨0, 0, 1, false, none⟩ })

/-- Lawful queues and staging records from what can be evaluated. -/
theorem preview_lawful_of {s : State}
    (queues : ∀ w ∈ Wheel.all, (queueOf s w).length ≤ 12 ∧
      ((queueOf s w).Pairwise fun i j => distanceTo s.travel.position i.trigger < distanceTo s.travel.position j.trigger) ∧
      ∀ i ∈ queueOf s w, 1 ≤ i.span ∧ i.span ≤ 4095 ∧ i.level ≤ 1023 ∧ distanceTo s.travel.position i.trigger ≤ 8095 ∧
        0 < distanceTo s.travel.position i.trigger + i.span ∧
        (i.active = true ↔ distanceTo s.travel.position i.trigger ≤ 0) ∧ i.arrival < s.preview.arrivals)
    (staging : ∀ p ∈ Port.all, (portOf s p).staging.level ≤ 1023 ∧ (portOf s p).staging.span ≤ 4095 ∧
      ((portOf s p).staging.spanStaged = true ↔ 1 ≤ (portOf s p).staging.span)) : PreviewLawful s :=
  ⟨fun w => (queues w (by cases w <;> decide)).imp_right fun h => h.imp_left fun o => o.imp Or.inl,
    fun p => staging p (by cases p <;> decide)⟩

theorem rolling_preview_lawful : PreviewLawful rolling := preview_lawful_of (by decide +kernel) (by decide +kernel)

theorem witness_AdvanceActivatesAndRetires :
    rolling.inReset = false ∧ rolling.travel.advances ≠ 0 ∧ PreviewLawful rolling :=
  ⟨by decide +kernel, by decide +kernel, rolling_preview_lawful⟩

/-- On both sides of half the range, and at half the range itself. -/
theorem witness_ReachedAgreesWithDistance :
    ((0x7FFFFF : BitVec 24) - 0).toNat < 2 ^ 23 ∧ (0x7FFFFF : BitVec 24) - 0 ≠ 0x800000 ∧
      (0x800001 : BitVec 24) - 0 ≠ 0x800000 ∧ reached 0 0x800000 = false ∧ distanceTo 0 0x800000 < 0 := by decide +kernel

theorem witness_PeriodStartTakesItsParameters : (rig .config).inReset = false ∧ (rig .config).timer.running = true := by decide

theorem wheelZero_expiry_comes : ExpiryComes wheelZero .fl (takenPeriod State.reset) :=
  ⟨rfl, rfl, rfl, by decide +kernel, fun _ h => by cases h; decide +kernel⟩

theorem witness_CycleExpiryFollowsTheStroke :
    ExpiryComes wheelZero .fl (takenPeriod State.reset) ∧ RolesDistinct wheelZero ∧ ¬ OutOfRange wheelZero 2110 ∧
      (wheelOf wheelZero .fl).stroke.status = .ok ∧ (wheelOf wheelZero .fl).stroke.lastPosition = some 2080 ∧
      OutOfRange wheelZero 99 ∧ OutOfRange wheelZero 3996 ∧ ¬ OutOfRange wheelZero 100 ∧ ¬ OutOfRange wheelZero 3995 := by
  and_intros <;> first | decide +kernel | exact wheelZero_expiry_comes | exact roles_of rfl rfl rfl

/-- The interval of `wheelZero` is regular; with the previous expiry a microsecond earlier it would not be. -/
theorem witness_CycleExpiryFollowsTheStroke_interval :
    (∃ n, (wheelOf wheelZero .fl).lastExpiry = some n ∧ wheelZero.timer.periodStart + 0 = n + (takenPeriod State.reset).length) ∧
      Irregular (modifyWheel wheelZero .fl fun r => { r with lastExpiry := some 1 }) .fl (takenPeriod State.reset) :=
  ⟨⟨0, by decide +kernel⟩, ⟨1, by decide +kernel⟩⟩

/-- The expiry at 1,000 us stands in the record, and a second one in that period finds nothing to do. -/
theorem witness_CycleExpiryFollowsTheStroke_once :
    let t := after (.cycleExpiry .fl 2110 780) wheelZero
    (wheelOf t .fl).lastExpiry = some 1000 ∧ after (.cycleExpiry .fl 99 0) t = t := by decide +kernel

/-- The two coincidences of log 31: phase 1,000 in a period of 2,000 after phase 0 in one of 1,000, and a period of 1,000
after one of 500 with no expiry; one microsecond of phase more is irregular. -/
theorem witness_CycleExpiryFollowsTheStroke_coincidence :
    let s := modifyWheel (rig .run) .fl fun r => { r with lastExpiry := some 0 }
    let At := fun (start length : Nat) => { s with timer := ⟨true, 0, some ⟨length, ⟨0, 0, 0, 0⟩⟩, start⟩ }
    irregularInterval (At 1000 2000) .fl 1000 = false ∧ irregularInterval (At 1000 1000) .fl 0 = false ∧
      irregularInterval (At 1000 2000) .fl 1001 = true := by decide +kernel

/-- A LOST sensor one sample short of its recovery, and one further off. -/
theorem witness_CycleExpiryFollowsTheStroke_lost :
    (⟨.lost, 0, 15, 2071, some 480, 20⟩ : Stroke).status = .lost ∧ 15 ≤ (⟨.lost, 0, 15, 2071, some 480, 20⟩ : Stroke).good ∧
      (⟨.lost, 0, 14, 2071, some 480, 20⟩ : Stroke).good < 15 := by decide

/-- The third open cycle on end and the second; a deviation of BAND and of one more; a wheel that is not running. -/
theorem witness_CycleExpiryChecksTheCoil :
    ExpiryComes wheelZero .fl (takenPeriod State.reset) ∧ Running (wheelOf wheelZero .fl) ∧ CoilFoundOpen wheelThree .rr 149 ∧
      ¬ CoilFoundOpen wheelThree .rr 150 ∧ ¬ CoilFoundOpen wheelZero .fl 0 ∧ Deviating wheelThree .rr 499 ∧
      ¬ Deviating wheelThree .rr 500 ∧ ¬ Running (wheelOf (rig .config) .fl) ∧ ¬ WheelMode (rig .config).mode ∧
      ¬ Running (wheelOf told .fr) ∧ (wheelOf told .fr).latch = true := by
  and_intros <;> first | decide +kernel | exact wheelZero_expiry_comes

theorem witness_RunningCycleSetsTheTarget :
    ExpiryComes wheelZero .fl (takenPeriod State.reset) ∧ WheelMode wheelZero.mode ∧ (wheelOf wheelZero .fl).latch = false ∧
      ¬ CoilFoundOpen wheelZero .fl 780 ∧ (wheelOf wheelZero .fl).previousTarget = some 780 ∧
      (wheelOf wheelZero .fr).previousTarget = none := by
  and_intros <;> first | decide +kernel | exact wheelZero_expiry_comes

/-- A floor one above the base, and one equal to it; an item that is ACTIVE. -/
theorem witness_ArbitrationFollowsPrecedence :
    effectiveItem [item 0 100 700 true 3] = some (item 0 100 700 true 3) ∧ (∀ i ∈ [item 5 10 300 false 4], i.active = false) ∧
      demandOf (rig .run) .fr .stability = none ∧
      demandOf (contest none (some 610) (some 611)) .fr .stability = some ⟨.b, 611, none, 90⟩ ∧
      demandOf (contest none (some 610) (some 610)) .fr .stability = some ⟨.b, 610, none, 90⟩ ∧
      demandOf (contest none (some 610) (some 610)) .fr .ride = some ⟨.a, 610, some false, 90⟩ := by decide +kernel

/-- The last value inside an axis and the first beyond it; the greatest remainders. -/
theorem witness_LookupInterpolates : 1023 < 2 ^ (6 + 4) ∧ 2 ^ (6 + 4) ≤ 1024 ∧ 63 < 2 ^ 6 ∧ 0 < 2 ^ 0 ∧ 127 < 2 ^ 7 := by decide

theorem witness_FilterStaysBetween : 1 ≤ 1 ∧ 1 ≤ 16 ∧ 16 ≤ 16 := by decide

/-- `wheelZero` with waiting commands and items: a state of a drive, in which wheel 0 runs at 780 mA. -/
def driving : State :=
  { withQueue .fl [item 0xFFFFF0 100 700 true 3, item 5 10 300 false 4] (withSlot 1 [] wheelZero) with
    pending := [.cycleExpiry .fl 2110 780, .advance] }

theorem driving_mode_lawful : ModeLawful driving where
  resetLoads := by decide +kernel
  timerRuns := by decide +kernel
  timerTook := by decide +kernel
  wheelsOff h := absurd (by decide +kernel) h
  queuesEmpty h := absurd (by decide +kernel) h
  demandsEmpty h := absurd (by decide +kernel) h
  linksStopped h := absurd (by decide +kernel) h
  unbound := by decide +kernel
  boundOnce := by decide +kernel
  loadEnded := by decide +kernel
  programs := by decide +kernel
  busy := by decide +kernel

theorem driving_drivers_lawful : DriversLawful driving := by
  refine ⟨driving_mode_lawful, fun _ x => by cases x <;> decide +kernel, forWheels ?_ ?_ ?_ ?_⟩ <;>
    (unfold DriverLawful; decide +kernel)

theorem witness_TargetFallIsLimited :
    DriversLawful driving ∧ exec (.cycleExpiry .fl 2110 780) driving = .next (after (.cycleExpiry .fl 2110 780) driving) ∧
      Running (wheelOf driving .fl) ∧ Running (wheelOf (after (.cycleExpiry .fl 2110 780) driving) .fl) :=
  ⟨driving_drivers_lawful, rfl, by decide +kernel, by decide +kernel⟩

theorem witness_ShortTurnsTheDriverOff :
    wheelZero.inReset = false ∧ RolesDistinct wheelZero ∧ (wheelOf wheelZero .fl).driver.regulating = true :=
  ⟨by decide +kernel, roles_of rfl rfl rfl, by decide +kernel⟩

/-- The load's first step with a parameter block that carries its own CRC-16. -/
def imaged : State :=
  { loading .parameterBlock with
    store := { (loading .parameterBlock).store with paramImage := .stored paramDefaults (crc16 (paramWords paramDefaults)) } }

theorem witness_LoadRunsThroughItsSteps_parameters :
    imaged.inReset = false ∧ RolesDistinct imaged ∧ imaged.store.load = some .parameterBlock ∧
      imaged.store.paramImage = .stored paramDefaults (crc16 (paramWords paramDefaults)) ∧
      ∀ ps crc, (loading .parameterBlock).store.paramImage = .stored ps crc → crc16 (paramWords ps) ≠ crc :=
  ⟨by decide, roles_of rfl rfl rfl, by decide, rfl, fun _ _ h => by cases h⟩

theorem witness_LoadRunsThroughItsSteps_slots :
    (loading (.slot 0)).inReset = false ∧ RolesDistinct (loading (.slot 0)) ∧ (loading (.slot 0)).store.load = some (.slot 0) ∧
      (loading (.slot 7)).store.load = some (.slot 7) ∧
      (∀ m crc, (loading (.slot 7)).store.slotImages[(7 : Fin 8)] = .stored m crc → crc16 (memoryWords m) ≠ crc) ∧
      (loading .completion).store.load = some .completion ∧ (loading .completion).mode = .loading ∧
      ({ loading .completion with mode := .shutdown } : State).mode = .shutdown := by
  and_intros <;> first | decide +kernel | exact roles_of rfl rfl rfl | skip
  exact fun _ _ h =>
    absurd ((show (loading (.slot 7)).store.slotImages[(7 : Fin 8)] = .invalid by decide).symm.trans h) (by simp)

theorem witness_LoadRunsThroughItsSteps_good_slot :
    ∃ crc, crc16 (memoryWords [(49, 700)]) = crc ∧
      (Vector.replicate 8 (Image.stored [(49, 700)] crc))[(0 : Fin 8)] = Image.stored [(49, 700)] crc :=
  ⟨_, rfl, rfl⟩

theorem witness_ResetsReturnToLoading :
    (Instr.powerOnReset = .powerOnReset ∨ Instr.powerOnReset = .resetLineReset) ∧ programming.store.operation ≠ none ∧
      ridden.store.operation = none ∧ (portOf (rig .run) .a).transaction = .idle ∧
      (portOf (after (.chipSelectFall .a) (rig .run)) .a).transaction ≠ .idle := by decide +kernel

theorem witness_ResetEndAssignsTheRoles :
    State.reset.inReset = true ∧ State.reset.mode = .loading ∧ State.reset.store.operation = none ∧
      State.reset.safeLow = false ∧ ({ State.reset with safeLow := true } : State).safeLow = true ∧
      exec (.resetEnd 1 2 3) State.reset = .next (after (.resetEnd 1 2 3) State.reset) ∧
      (portOf (after (.resetEnd 1 2 3) State.reset) .a).role ≠ (portOf State.reset .a).role := by
  and_intros <;> first | decide +kernel | exact rfl

theorem witness_ErrorBanksFollowTheirLaw :
    let s := setErrorBank (rig .run) .store ⟨true, true, false, .paramBad, false, 0⟩
    RolesDistinct s ∧ (errorBank s .store).valid = true ∧ (errorBank s .store).uncorrected = true ∧
      (errorBank s .link).valid = false ∧ exec .advance s = .next (after .advance s) ∧ Instr.advance ≠ .powerOnReset ∧
      (∀ h d, Instr.advance = .clearBank h d → d.toNat ≠ bankNum .store) ∧
      (ErrorRecord.clear.valid = false ∨ ErrorRecord.clear.uncorrected = false) ∧
      (errorBank (setErrorBank s .link ⟨true, false, false, .frameCrc, true, 1⟩) .link).valid = true ∧
      (errorBank (setErrorBank s .link ⟨true, false, false, .frameCrc, true, 1⟩) .link).uncorrected = false := by
  dsimp only
  and_intros <;> first | decide +kernel | exact roles_of rfl rfl rfl | exact rfl | exact fun _ _ h => nomatch h

theorem witness_ShutdownLastsUntilReset :
    exec .calEnFall (rig .shutdown) = .next (after .calEnFall (rig .shutdown)) ∧ (rig .shutdown).mode = .shutdown ∧
      Instr.calEnFall ≠ .powerOnReset ∧ Instr.calEnFall ≠ .resetLineReset := by
  and_intros <;> first | decide +kernel | exact rfl

/-- The state that the front command of `driving` leaves. -/
def driven : State := after (.cycleExpiry .fl 2110 780) { driving with pending := [.advance] }

theorem driving_steps : step driving = .next driven := rfl

theorem witness_StepKeepsMapsLawful : MapsLawful driving ∧ step driving = .next driven := by
  refine ⟨?_, driving_steps⟩
  apply maps_lawful_of <;> decide +kernel

theorem witness_StepKeepsRolesAndDemandsLawful :
    RolesDistinct driving ∧ DemandsLawful driving ∧ step driving = .next driven := by
  refine ⟨roles_of rfl rfl rfl, ⟨fun h => absurd h (by decide +kernel), fun w src r h => ?_⟩, driving_steps⟩
  have held : w = .fl ∧ src = .ride ∧ r = ⟨.a, 610, some false, 90⟩ := by
    cases w <;> cases src <;> cases h
    exact ⟨rfl, rfl, rfl⟩
  obtain ⟨rfl, rfl, rfl⟩ := held
  decide +kernel

theorem driving_params_lawful : ParamsLawful driving := by
  refine ⟨fun k => ?_, fun ps crc h => ?_, fun o ps h => ?_⟩
  · cases k <;> (try (rename_i x; cases x)) <;> decide +kernel
  · cases h
  · cases h

theorem witness_StepKeepsParametersAndStrokesLawful :
    ParamsLawful driving ∧ StrokesLawful driving ∧ step driving = .next driven := by
  refine ⟨driving_params_lawful, forWheels ?_ ?_ ?_ ?_, driving_steps⟩ <;>
    (unfold StrokeLawful; and_intros <;> decide +kernel)

theorem witness_StepKeepsQueuesLawful : ParamsLawful driving ∧ PreviewLawful driving ∧ step driving = .next driven :=
  ⟨driving_params_lawful, preview_lawful_of (by decide +kernel) (by decide +kernel), driving_steps⟩

theorem witness_StepKeepsModesLawful : ModeLawful driving ∧ ChecksStand driving ∧ WheelMode driving.mode ∧ step driving = .next driven :=
  ⟨driving_mode_lawful, fun _ => passes_of (by decide +kernel) (by decide +kernel) (by decide +kernel) (by decide +kernel)
    (by decide +kernel), Or.inl rfl, driving_steps⟩

theorem witness_StepKeepsDriversLawful : DriversLawful driving ∧ CountsLawful driving ∧ step driving = .next driven := by
  refine ⟨driving_drivers_lawful, ⟨by decide +kernel, forWheels ?_ ?_ ?_ ?_⟩, driving_steps⟩ <;>
    (unfold CountsInRange; decide +kernel)

/-- Wheel 1 enters FAILSAFE again on a short, port B's mark having stood for wheel 3. -/
def marked : State :=
  { modifyWheel (modifyWheel told .fr fun _ => runningAt 600 (primed 2048 0 0) WheelRecord.reset) .rr fun r =>
      { r with state := .failsafe, latch := true } with pending := [.shortDetected .fr] }

theorem witness_ReportedMarksFollowTheirCauses :
    MarksLawful marked ∧ step marked = .next (after (.shortDetected .fr) { marked with pending := [] }) ∧
      EntersCause marked (after (.shortDetected .fr) { marked with pending := [] }) .wheelFailsafe .fr ∧
      (portOf marked .b).reported.wheelFailsafe = true := by
  refine ⟨fun p l h => ?_, rfl, by unfold EntersCause; decide +kernel, by decide +kernel⟩
  revert h
  cases p <;> cases l <;> decide +kernel

/-- Wheel 3 leaves FAILSAFE while wheel 1 remains, port B's mark standing. -/
def leaving : State := modifyWheel told .rr fun r => { r with state := .failsafe }

theorem witness_ReportedMarksFollowTheirCauses_kept :
    let t := after (.cycleExpiry .rr 2048 0) leaving
    exec (.cycleExpiry .rr 2048 0) leaving = .next t ∧ (wheelOf t .rr).state = .active ∧
      markIn (portOf leaving .b).reported .wheelFailsafe = true ∧ levelHolds t .wheelFailsafe = true ∧
      ∀ w, ¬ EntersCause leaving t .wheelFailsafe w := by
  refine ⟨rfl, by decide +kernel, by decide +kernel, by decide +kernel, forWheels ?_ ?_ ?_ ?_⟩ <;>
    (unfold EntersCause; decide +kernel)

theorem witness_ReportedMarksFollowTheirCauses_set :
    let t := after (.notice (from_ .a) 0) told
    exec (.notice (from_ .a) 0) told = .next t ∧ markIn (portOf told .a).reported .wheelFailsafe = false ∧
      markIn (portOf t .a).reported .wheelFailsafe = true :=
  ⟨rfl, by decide +kernel, by decide +kernel⟩

theorem witness_RequestFramesReadBack :
    (Instr.mapPut (from_ .a) 5).wellFormed = true ∧ frameOf (.mapPut (from_ .a) 5) = some (from_ .a, .put) ∧
      (Instr.unassignedCommand (from_ .a) 0x13 0).wellFormed = true ∧
      frameOf (.unassignedCommand (from_ .a) 0x13 0) = some (from_ .a, .unassigned) := by decide

end Sys2Proof.Tests
end

section
/-! PROOF. The demand table (chapter 1): SET_LEVEL, SET_FLOOR and RELEASE at a receiving port (O7, O8, O9), over two rules
that hold for every good frame, one for a frame that acceptance refuses and one for a frame that its owner refuses. -/

namespace Sys2Proof.Proofs

open Sys2Proof.Machine

section Refusals

variable {i : Instr} {h : Header} {c : Command} {owner : State → Answer} {s : State}

/-- A frame that acceptance refuses is only answered NOT_PERMITTED (R136). -/
theorem answersOnly_of_not_admitted (he : exec i s = .next (takeFrame h c owner s)) (hr : Receives s h.port)
    (ha : ¬ admitted s h.port c = true) (hc : ¬ (c = .put ∨ c = .get)) : AnswersOnly i s h .notPermitted 0 :=
  ⟨_, he, takeFrame_onlyAnswered (takesTransaction_of_receives hr) (judge_refused (by simpa using ha)) hc⟩

/-- An admitted frame that its owner refuses is only answered with the owner's status. -/
theorem answersOnly_of_owner_refuses (he : exec i s = .next (takeFrame h c owner s)) (hr : Receives s h.port)
    (ha : admitted s h.port c = true) {st : Status}
    (ho : owner (makeLive s h.port) = refuseWith (makeLive s h.port) st) (hc : ¬ (c = .put ∨ c = .get)) :
    AnswersOnly i s h st 0 :=
  ⟨_, he, takeFrame_onlyAnswered (takesTransaction_of_receives hr)
    (by rw [judge_admitted (by simpa using ha)]; exact ho) hc⟩

end Refusals

section Admission

variable {s : State} {p : Port}

theorem admitted_setLevel_iff :
    admitted s p .setLevel = true ↔ (portOf s p).role = .ride ∧ OperatingMode s.mode := by
  simp [admitted, roleAdmits, modeAdmits, or_assoc]

theorem admitted_setFloor_iff :
    admitted s p .setFloor = true ↔ (portOf s p).role = .stability ∧ OperatingMode s.mode := by
  simp [admitted, roleAdmits, modeAdmits, or_assoc]

theorem admitted_release_iff :
    admitted s p .release = true ↔
      ((portOf s p).role = .ride ∨ (portOf s p).role = .stability) ∧ OperatingMode s.mode := by
  simp [admitted, roleAdmits, modeAdmits, or_assoc]

/-- A port whose role fills a source's positions may issue a RELEASE in an operating mode (Table 7-6). -/
theorem admitted_release_of_source {src : Source} (hrole : (portOf s p).role = sourceRole src)
    (hop : OperatingMode s.mode) : admitted s p .release = true := by
  refine admitted_release_iff.mpr ⟨?_, hop⟩
  cases src with
  | ride => exact .inl hrole
  | stability => exact .inr hrole

end Admission

section Fields

/-- Data bits 11-2 carry the level, whatever stands below them (Table 7-5). -/
theorem dataLevel_append (level : BitVec 10) (low : BitVec 2) : dataLevel (level ++ low) = level.toNat := by
  have hextract : (level ++ low).extractLsb' 2 10 = level := by
    apply BitVec.eq_of_getLsbD_eq
    intro k hk
    rw [BitVec.getLsbD_extractLsb', BitVec.getLsbD_append]
    have hlow : 1 < 2 + k := by omega
    simp [hk, hlow]
  rw [dataLevel, hextract]

/-- The level of a SET_LEVEL data field (Table 7-5). -/
theorem dataLevel_setLevel (level : BitVec 10) (attr spare : Bool) :
    dataLevel (level ++ BitVec.ofBool attr ++ BitVec.ofBool spare) = level.toNat := by
  have hassoc : level ++ BitVec.ofBool attr ++ BitVec.ofBool spare
      = level ++ (BitVec.ofBool attr ++ BitVec.ofBool spare) := by
    simpa using BitVec.append_assoc (x₁ := level) (x₂ := BitVec.ofBool attr) (x₃ := BitVec.ofBool spare)
  rw [hassoc, dataLevel_append]

/-- The attribute of a SET_LEVEL data field (Table 7-5). -/
theorem dataAttr_setLevel (level : BitVec 10) (attr spare : Bool) :
    dataAttr (level ++ BitVec.ofBool attr ++ BitVec.ofBool spare) = attr := by
  rw [dataAttr, BitVec.getLsbD_append, BitVec.getLsbD_append]
  simp

end Fields

section Owners

variable {h : Header} {s : State}

theorem setLevel_of_mask_zero (data : BitVec 12) (hm : h.mask = 0) : setLevel h data s = refuseWith s .badArg :=
  if_pos hm

theorem setLevel_of_mask_ne_zero (data : BitVec 12) (hm : h.mask ≠ 0) :
    setLevel h data s = okWith (setNamedDemands s h.mask .ride
      (some ⟨h.port, dataLevel data, some (dataAttr data), holdExpiry s .holdRide⟩)) :=
  if_neg hm

theorem setFloor_of_mask_zero (data : BitVec 12) (hm : h.mask = 0) : setFloor h data s = refuseWith s .badArg :=
  if_pos hm

theorem setFloor_of_mask_ne_zero (data : BitVec 12) (hm : h.mask ≠ 0) :
    setFloor h data s = okWith (setNamedDemands s h.mask .stability
      (some ⟨h.port, dataLevel data, none, holdExpiry s .holdStab⟩)) :=
  if_neg hm

theorem release_of_mask_zero (hm : h.mask = 0) : release h s = refuseWith s .badArg := if_pos hm

theorem releaseSource_sourceRole (src : Source) : releaseSource (sourceRole src) = src := by cases src <;> rfl

/-- A RELEASE empties the positions of the source that the sending port's role fills (R7). -/
theorem release_of_mask_ne_zero {src : Source} (hm : h.mask ≠ 0) (hrole : (portOf s h.port).role = sourceRole src) :
    release h s = okWith (setNamedDemands s h.mask src none) := by
  rw [release, if_neg hm, hrole, releaseSource_sourceRole]

end Owners

section Written

/-- What a frame does that wrote one content into a source's position of every wheel its mask names: the answer OK with
data 0, those positions, and nothing else. -/
structure WroteNamed (s t : State) (h : Header) (src : Source) (r : Option DemandRecord) : Prop where
  answered : Answered s t h .ok 0
  port : PortKept s t h.port
  others : OthersKept s t h.port
  demands : ∀ w k, demandOf t w k = if h.mask.getLsbD w.num = true ∧ k = src then r else demandOf s w k
  rest : t = { s with ports := t.ports, demands := t.demands }

variable {s t : State} {h : Header} {src : Source} {r : Option DemandRecord}

/-- The source's own positions: written where named. -/
theorem WroteNamed.at_source (hw : WroteNamed s t h src r) (w : Wheel) :
    demandOf t w src = if h.mask.getLsbD w.num then r else demandOf s w src := by
  simp [hw.demands]

/-- The other source's positions: kept. -/
theorem WroteNamed.at_other (hw : WroteNamed s t h src r) (w : Wheel) {k : Source} (hk : k ≠ src) :
    demandOf t w k = demandOf s w k := by
  simp [hw.demands, hk]

/-- An admitted frame, not a PUT or a GET, whose owner writes the named positions (R4, R5, R7). -/
theorem takeFrame_wroteNamed {c : Command} {owner : State → Answer} (hr : Receives s h.port)
    (ha : admitted s h.port c = true) (hc : ¬ (c = .put ∨ c = .get))
    (ho : owner (makeLive s h.port) = okWith (setNamedDemands (makeLive s h.port) h.mask src r)) :
    WroteNamed s (takeFrame h c owner s) h src r := by
  have hports : ∀ q, portOf (setNamedDemands (makeLive s h.port) h.mask src r) q = portOf (makeLive s h.port) q :=
    fun _ => rfl
  obtain ⟨hans, hport, hother, hrest⟩ :=
    takeFrame_admitted hr ha ho ⟨by simp [hports], by simp [hports]⟩
  have hdem := congrArg State.demands hrest
  generalize takeFrame h c owner s = t at *
  rw [if_neg hc] at hport
  refine ⟨hans, ?_, fun q hq => ?_, fun w k => ?_, ?_⟩
  · have hlive : PortPointed s (setNamedDemands (makeLive s h.port) h.mask src r) h.port (portOf s h.port).pointer := by
      constructor <;> simp [hports]
    simpa [hports] using hlive.trans hport
  · rw [hother q hq, hports, portOf_makeLive_ne s hq]
  · calc demandOf t w k = demandOf (setNamedDemands (makeLive s h.port) h.mask src r) w k := by
          simp only [demandOf, hdem]
      _ = if h.mask.getLsbD w.num = true ∧ k = src then r else demandOf s w k := demandOf_setNamedDemands ..
  · calc t = { setNamedDemands (makeLive s h.port) h.mask src r with ports := t.ports } := hrest
      _ = { s with ports := t.ports, demands := t.demands } := by rw [hdem]; rfl

end Written

/-- The expiry of an empty position changes nothing, a reset lasting or not (R8). -/
theorem exec_demandRecordExpiry_of_empty {s : State} {w : Wheel} {src : Source} (hd : demandOf s w src = none) :
    exec (.demandRecordExpiry w src) s = .next s := by
  have hexpire : expireDemand w src s = s := by simp only [expireDemand, hd]
  change Host.Outcome.next (unlessInReset s (expireDemand w src)) = .next s
  rw [unlessInReset, hexpire, ite_self]

/-- A floor of level 0 lies below no base (R5, R22). -/
theorem applyFloor_of_level_zero (b : Base) {r : DemandRecord} (hr : r.level = 0) : applyFloor b (some r) = b := by
  simp [applyFloor, hr]

/-- Settles O7: acceptance refuses, the owner refuses an empty mask, or the owner writes the named RIDE positions. -/
theorem setLevelSetsTheNamedRideRecords : Obligations.SetLevelSetsTheNamedRideRecords := by
  intro h level attr spare s hr
  refine ⟨fun hn => ?_, fun hrole hop hm => ?_, fun hrole hop hm => ?_⟩
  · exact answersOnly_of_not_admitted rfl hr (mt admitted_setLevel_iff.mp hn) (by decide)
  · exact answersOnly_of_owner_refuses rfl hr (admitted_setLevel_iff.mpr ⟨hrole, hop⟩)
      (setLevel_of_mask_zero _ hm) (by decide)
  · have hw := takeFrame_wroteNamed hr (admitted_setLevel_iff.mpr ⟨hrole, hop⟩) (by decide)
      (setLevel_of_mask_ne_zero (level ++ BitVec.ofBool attr ++ BitVec.ofBool spare) hm)
    rw [dataLevel_setLevel, dataAttr_setLevel] at hw
    exact ⟨_, rfl, hw.answered, hw.port, hw.others, hw.at_source, fun w => hw.at_other w (by decide), hw.rest⟩

/-- Settles O8: the cases of O7 for the STABILITY positions, and the floor of level 0. -/
theorem setFloorSetsTheNamedStabilityRecords : Obligations.SetFloorSetsTheNamedStabilityRecords := by
  refine ⟨fun h level spare s hr => ⟨fun hn => ?_, fun hrole hop hm => ?_, fun hrole hop hm => ?_⟩,
    fun b _ => applyFloor_of_level_zero b⟩
  · exact answersOnly_of_not_admitted rfl hr (mt admitted_setFloor_iff.mp hn) (by decide)
  · exact answersOnly_of_owner_refuses rfl hr (admitted_setFloor_iff.mpr ⟨hrole, hop⟩)
      (setFloor_of_mask_zero _ hm) (by decide)
  · have hw := takeFrame_wroteNamed hr (admitted_setFloor_iff.mpr ⟨hrole, hop⟩) (by decide)
      (setFloor_of_mask_ne_zero (level ++ spare) hm)
    rw [dataLevel_append] at hw
    exact ⟨_, rfl, hw.answered, hw.port, hw.others, hw.at_source, fun w => hw.at_other w (by decide), hw.rest⟩

/-- Settles O9: the cases of O7 for emptied positions of the port's own source; a named position is then empty, so its
expiry finds nothing. -/
theorem releaseRemovesTheNamedRecords : Obligations.ReleaseRemovesTheNamedRecords := by
  intro h d s hr
  refine ⟨fun hn => ?_, fun src hrole hop => ⟨fun hm => ?_, fun hm => ?_⟩⟩
  · exact answersOnly_of_not_admitted rfl hr (mt admitted_release_iff.mp hn) (by decide)
  · exact answersOnly_of_owner_refuses rfl hr (admitted_release_of_source hrole hop) (release_of_mask_zero hm) (by decide)
  · have hw : WroteNamed s (takeFrame h .release (release h) s) h src none :=
      takeFrame_wroteNamed hr (admitted_release_of_source hrole hop) (by decide)
        (release_of_mask_ne_zero hm (by simpa using hrole))
    refine ⟨_, rfl, hw.answered, hw.port, hw.others, hw.demands, hw.rest, fun w hnamed => ?_⟩
    exact exec_demandRecordExpiry_of_empty (by rw [hw.at_source, if_pos hnamed])

end Sys2Proof.Proofs
end

section
/-! PROOF. Staging, PREVIEW_AT's checks and PREVIEW_CANCEL (chapter 2) at a receiving port (O12, O13, O15), over two rules
for admitted frames: one for an owner that refuses with data, one for an owner that leaves every port alone. -/

namespace Sys2Proof.Proofs

open Sys2Proof.Machine

section Taking

variable {i : Instr} {h : Header} {c : Command} {owner : State → Answer} {s : State}

/-- An admitted frame that its owner refuses is only answered with the owner's status and data. -/
theorem answersOnly_of_owner_refuses_with_data (he : exec i s = .next (takeFrame h c owner s)) (hr : Receives s h.port)
    (ha : admitted s h.port c = true) {st : Status} {v : BitVec 16}
    (ho : owner (makeLive s h.port) = refuseWith (makeLive s h.port) st v) (hc : ¬ (c = .put ∨ c = .get)) :
    AnswersOnly i s h st v :=
  ⟨_, he, takeFrame_onlyAnswered (takesTransaction_of_receives hr)
    (by rw [judge_admitted (by simpa using ha)]; exact ho) hc⟩

/-- An admitted frame, not a PUT or a GET, whose owner leaves every port alone: the answer, the kept ports, and the rest
as the owner left it. -/
theorem takeFrame_of_ports_kept (hr : Receives s h.port) (ha : admitted s h.port c = true)
    (hc : ¬ (c = .put ∨ c = .get)) {u : State} {st : Status} {v : BitVec 16}
    (ho : owner (makeLive s h.port) = ⟨u, st, v⟩) (hu : ∀ q, portOf u q = portOf (makeLive s h.port) q) :
    Answered s (takeFrame h c owner s) h st v ∧ PortKept s (takeFrame h c owner s) h.port ∧
      OthersKept s (takeFrame h c owner s) h.port ∧
      takeFrame h c owner s = { u with ports := (takeFrame h c owner s).ports } := by
  obtain ⟨hans, hport, hother, hrest⟩ := takeFrame_admitted hr ha ho ⟨by simp [hu], by simp [hu]⟩
  have hlive : PortPointed s u h.port (portOf s h.port).pointer := by constructor <;> simp [hu]
  rw [if_neg hc] at hport
  refine ⟨hans, ?_, fun q hq => ?_, hrest⟩
  · simpa [hu] using hlive.trans hport
  · rw [hother q hq, hu, portOf_makeLive_ne s hq]

theorem admitted_preview_iff {p : Port} :
    admitted s p .preview = true ↔ (portOf s p).role = .preview ∧ WheelMode s.mode := by
  simp [admitted, roleAdmits, modeAdmits]

end Taking

section Staging

variable {s : State} {h : Header} {c : Command} {owner : State → Answer}

/-- The copy flag of a PREVIEW_LEVEL data field (Table 7-5). -/
theorem dataCopy_previewLevel (level : BitVec 10) (attr copyFlag : Bool) :
    dataCopy (level ++ BitVec.ofBool attr ++ BitVec.ofBool copyFlag) = copyFlag := by
  rw [dataCopy, BitVec.getLsbD_append]
  simp

theorem stageSpan_of_zero (p : Port) {span : BitVec 12} (hz : span = 0) : stageSpan p span s = refuseWith s .badArg :=
  if_pos hz

theorem stageSpan_of_ne_zero (p : Port) {span : BitVec 12} (hz : span ≠ 0) :
    stageSpan p span s = okWith (modifyStaging s p fun g => { g with span := span.toNat, spanStaged := true }) :=
  if_neg hz

/-- What a frame does that gave its port another staging record: the answer OK with data 0, that record, and nothing
else. -/
structure StagedRecord (s t : State) (h : Header) (g : Staging) : Prop where
  answered : Answered s t h .ok 0
  staging : (portOf t h.port).staging = g
  port : PortKept (modifyStaging s h.port fun _ => g) t h.port
  others : OthersKept s t h.port
  rest : t = { s with ports := t.ports }

/-- An admitted frame, not a PUT or a GET, whose owner changes its port's staging record (R40, R41). -/
theorem takeFrame_stagedRecord (hr : Receives s h.port) (ha : admitted s h.port c = true)
    (hc : ¬ (c = .put ∨ c = .get)) {f : Staging → Staging}
    (ho : owner (makeLive s h.port) = okWith (modifyStaging (makeLive s h.port) h.port f)) :
    StagedRecord s (takeFrame h c owner s) h (f (portOf s h.port).staging) := by
  obtain ⟨hans, hport, hother, hrest⟩ :=
    takeFrame_admitted hr ha ho ⟨by simp [modifyStaging], by simp [modifyStaging]⟩
  rw [if_neg hc] at hport
  have hlive : PortPointed (modifyStaging s h.port fun _ => f (portOf s h.port).staging)
      (modifyStaging (makeLive s h.port) h.port f) h.port (portOf s h.port).pointer := by
    constructor <;> simp [modifyStaging]
  refine ⟨hans, ?_, ?_, fun q hq => ?_, hrest⟩
  · simpa [modifyStaging] using hport.staging
  · have hpointer : (portOf (modifyStaging (makeLive s h.port) h.port f) h.port).pointer = (portOf s h.port).pointer := by
      simp [modifyStaging]
    rw [hpointer] at hport
    simpa [PortKept, modifyStaging] using hlive.trans hport
  · rw [hother q hq, modifyStaging, portOf_modifyPort_ne _ _ hq, portOf_makeLive_ne s hq]

end Staging

section Checks

variable {h : Header} {s : State} {d : BitVec 12}

/-- The named wheels whose queues hold 12 items: the data of a FULL answer (Table 2-4). -/
def fullNamed (mask : BitVec 4) (s : State) : BitVec 4 := maskOf fun w => namesWheel mask w && isFull (queueOf s w)

theorem fullNamed_names_iff (mask : BitVec 4) (s : State) (w : Wheel) :
    (fullNamed mask s).getLsbD w.num = true ↔ mask.getLsbD w.num = true ∧ 12 ≤ (queueOf s w).length := by
  change namesWheel (maskOf _) w = true ↔ _
  rw [namesWheel_maskOf, Bool.and_eq_true, isFull_iff, namesWheel]

theorem fullNamed_eq_zero_iff (mask : BitVec 4) (s : State) :
    fullNamed mask s = 0 ↔ ¬ ∃ w : Wheel, mask.getLsbD w.num = true ∧ 12 ≤ (queueOf s w).length := by
  rw [fullNamed, maskOf_eq_zero, not_exists]
  refine forall_congr' fun w => ?_
  rw [← isFull_iff, ← Bool.and_eq_true, Bool.not_eq_true, namesWheel]

/-- The insertions of a PREVIEW_AT, with PREVIEW_DROPPED raised where a COPY is lost (R43-R45). -/
def insertedOrDropped (s : State) (mask : BitVec 4) (g : Staging) (n : Nat) : State :=
  if Wheel.all.any (losesCopy s mask g) then raiseAtRole (insertStaged s mask g n) .previewDropped .preview
  else insertStaged s mask g n

/-- PREVIEW_AT at the preview scheduler, the full wheels and the insertions named (Table 2-4). -/
theorem placePreview_eq (h : Header) (d : BitVec 12) (s : State) :
    placePreview h d s =
      if h.mask = 0 then refuseWith s .badArg
      else if !((portOf s h.port).staging.levelStaged && (portOf s h.port).staging.spanStaged) then
        refuseWith s .notStaged
      else if fullNamed h.mask s ≠ 0 then refuseWith s .full ((fullNamed h.mask s).setWidth 16)
      else
        okWith (insertedOrDropped s h.mask (portOf s h.port).staging d.toNat)
          ((maskOf fun w => (itemFor s h.mask (portOf s h.port).staging d.toNat w).isSome).setWidth 16) := rfl

theorem placePreview_of_mask_zero (hm : h.mask = 0) : placePreview h d s = refuseWith s .badArg := by
  rw [placePreview_eq, if_pos hm]

theorem placePreview_of_not_staged (hm : h.mask ≠ 0)
    (hg : ¬ ((portOf s h.port).staging.levelStaged = true ∧ (portOf s h.port).staging.spanStaged = true)) :
    placePreview h d s = refuseWith s .notStaged := by
  rw [← Bool.and_eq_true, Bool.not_eq_true] at hg
  rw [placePreview_eq, if_neg hm, if_pos (by rw [hg]; rfl)]

theorem placePreview_of_full (hm : h.mask ≠ 0)
    (hg : (portOf s h.port).staging.levelStaged = true ∧ (portOf s h.port).staging.spanStaged = true)
    (hf : fullNamed h.mask s ≠ 0) :
    placePreview h d s = refuseWith s .full ((fullNamed h.mask s).setWidth 16) := by
  rw [placePreview_eq, if_neg hm, if_neg (by simp [hg]), if_pos hf]

theorem placePreview_of_checks_passed (hm : h.mask ≠ 0)
    (hg : (portOf s h.port).staging.levelStaged = true ∧ (portOf s h.port).staging.spanStaged = true)
    (hf : fullNamed h.mask s = 0) :
    placePreview h d s =
      okWith (insertedOrDropped s h.mask (portOf s h.port).staging d.toNat)
        ((maskOf fun w => (itemFor s h.mask (portOf s h.port).staging d.toNat w).isSome).setWidth 16) := by
  rw [placePreview_eq, if_neg hm, if_neg (by simp [hg]), if_neg (not_not_intro hf)]

@[simp] theorem portOf_insertStaged (s : State) (mask : BitVec 4) (g : Staging) (n : Nat) (q : Port) :
    portOf (insertStaged s mask g n) q = portOf s q := rfl

/-- Neither the insertions nor PREVIEW_DROPPED touch the link of a port that became LIVE, nor its timer. -/
theorem keepsLink_insertedOrDropped (s : State) (p : Port) (mask : BitVec 4) (g : Staging) (n : Nat) :
    KeepsLink s (insertedOrDropped (makeLive s p) mask g n) p := by
  unfold insertedOrDropped
  split
  · constructor <;> rw [portOf_raiseAtRole] <;> split <;> simp
  · constructor <;> simp

end Checks

section Cancelling

variable {h : Header} {s : State}

/-- R48: the items of the named queues, wheel by wheel. -/
theorem namedItems_eq (s : State) (mask : BitVec 4) :
    let count := fun w : Wheel => if namesWheel mask w then (queueOf s w).length else 0
    namedItems s mask = count .fl + count .fr + count .rl + count .rr := by
  intro count
  have hsplit := List.sum_map_ite (fun w => namesWheel mask w = true) (fun w => (queueOf s w).length) (fun _ => 0) Wheel.all
  calc namedItems s mask = (Wheel.all.map count).sum := by
          simpa [namedItems, count] using hsplit.symm
    _ = count .fl + count .fr + count .rl + count .rr := by simp [Wheel.all, add_assoc]

/-- The state with the queues of the named wheels emptied (R48). -/
def cancelNamed (s : State) (mask : BitVec 4) : State :=
  { s with
    preview :=
      { s.preview with queues := s.preview.queues.mapWith fun w q => if namesWheel mask w then [] else q } }

@[simp] theorem portOf_cancelNamed (s : State) (mask : BitVec 4) (q : Port) :
    portOf (cancelNamed s mask) q = portOf s q := rfl

theorem queueOf_cancelNamed (s : State) (mask : BitVec 4) (w : Wheel) :
    queueOf (cancelNamed s mask) w = if namesWheel mask w then [] else queueOf s w := by
  simp [queueOf, cancelNamed]

theorem cancelPreview_of_mask_zero (hm : h.mask = 0) : cancelPreview h s = refuseWith s .badArg := if_pos hm

theorem cancelPreview_of_mask_ne_zero (hm : h.mask ≠ 0) :
    cancelPreview h s = okWith (cancelNamed s h.mask) (word16 (namedItems s h.mask)) := if_neg hm

end Cancelling

/-- Settles O12: acceptance refuses both, the owner refuses a span of 0, or the owner replaces its fields of the port's
staging record. -/
theorem previewLevelAndSpanStage : Obligations.PreviewLevelAndSpanStage := by
  intro h level attr copyFlag span s hr
  refine ⟨fun hn => ?_, fun hrole hmode => ?_⟩
  · have hrefused := mt admitted_preview_iff.mp hn
    exact ⟨answersOnly_of_not_admitted rfl hr hrefused (by decide), answersOnly_of_not_admitted rfl hr hrefused (by decide)⟩
  · have ha : admitted s h.port .preview = true := admitted_preview_iff.mpr ⟨hrole, hmode⟩
    refine ⟨?_, fun hspan => ?_, fun hspan => ?_⟩
    · have hs := takeFrame_stagedRecord
        (owner := stageLevel h.port (level ++ BitVec.ofBool attr ++ BitVec.ofBool copyFlag)) hr ha (by decide) rfl
      rw [dataLevel_setLevel, dataAttr_setLevel, dataCopy_previewLevel] at hs
      exact ⟨_, rfl, hs.answered, hs.staging, hs.port, hs.others, hs.rest⟩
    · have hs := takeFrame_stagedRecord hr ha (by decide) (stageSpan_of_ne_zero h.port hspan)
      exact ⟨_, rfl, hs.answered, hs.staging, hs.port, hs.others, hs.rest⟩
    · exact answersOnly_of_owner_refuses rfl hr ha (stageSpan_of_zero h.port hspan) (by decide)

/-- Settles O13: each check of Table 2-4 refuses before the next is judged, and an owner past all three answers OK. -/
theorem previewAtIsCheckedInOrder : Obligations.PreviewAtIsCheckedInOrder := by
  intro h d s hr
  dsimp only
  have hstaging : (portOf (makeLive s h.port) h.port).staging = (portOf s h.port).staging := by simp
  refine ⟨fun hn => ?_, fun hadm hm => ?_, fun hadm hm hg => ?_, fun hadm hm hg hf => ?_, fun hadm hm hg hf => ?_⟩
  · exact answersOnly_of_not_admitted rfl hr (mt admitted_preview_iff.mp hn) (by decide)
  · exact answersOnly_of_owner_refuses rfl hr (admitted_preview_iff.mpr hadm) (placePreview_of_mask_zero hm) (by decide)
  · exact answersOnly_of_owner_refuses rfl hr (admitted_preview_iff.mpr hadm)
      (placePreview_of_not_staged hm (by rwa [hstaging])) (by decide)
  · have hfull : fullNamed h.mask (makeLive s h.port) ≠ 0 := fun hz => (fullNamed_eq_zero_iff ..).mp hz hf
    exact ⟨_, fullNamed_names_iff h.mask s, answersOnly_of_owner_refuses_with_data rfl hr (admitted_preview_iff.mpr hadm)
      (placePreview_of_full hm (by rwa [hstaging]) hfull) (by decide)⟩
  · have hroom : fullNamed h.mask (makeLive s h.port) = 0 := (fullNamed_eq_zero_iff ..).mpr hf
    exact ⟨_, _, rfl, (takeFrame_admitted hr (admitted_preview_iff.mpr hadm)
      (placePreview_of_checks_passed hm (by rwa [hstaging]) hroom) (keepsLink_insertedOrDropped ..)).1⟩

/-- Settles O15: acceptance refuses, the owner refuses an empty mask, or the owner empties the named queues and counts
what they held. -/
theorem previewCancelEmptiesTheNamedQueues : Obligations.PreviewCancelEmptiesTheNamedQueues := by
  intro h d s hr
  refine ⟨fun hn => ?_, fun hrole hmode hm => ?_, fun hrole hmode hm => ?_⟩
  · exact answersOnly_of_not_admitted rfl hr (mt admitted_preview_iff.mp hn) (by decide)
  · exact answersOnly_of_owner_refuses rfl hr (admitted_preview_iff.mpr ⟨hrole, hmode⟩) (cancelPreview_of_mask_zero hm)
      (by decide)
  · intro count
    obtain ⟨hans, hport, hother, hrest⟩ := takeFrame_of_ports_kept hr (admitted_preview_iff.mpr ⟨hrole, hmode⟩)
      (by decide) (cancelPreview_of_mask_ne_zero hm) fun q => portOf_cancelNamed ..
    have hexec : exec (.previewCancel h d) s = .next (takeFrame h .preview (cancelPreview h) s) := rfl
    have hpreview : (takeFrame h .preview (cancelPreview h) s).preview = (cancelNamed s h.mask).preview :=
      (congrArg State.preview hrest).trans rfl
    have hcount : namedItems s h.mask = count .fl + count .fr + count .rl + count .rr := namedItems_eq s h.mask
    generalize takeFrame h .preview (cancelPreview h) s = t at *
    refine ⟨t, hexec, ?_, hport, hother, fun w => ?_, by rw [hpreview]; rfl, ?_⟩
    · rw [← hcount]
      exact hans
    · calc queueOf t w = queueOf (cancelNamed s h.mask) w := by rw [queueOf, hpreview, queueOf]
        _ = if h.mask.getLsbD w.num then [] else queueOf s w := queueOf_cancelNamed ..
    · calc t = { cancelNamed (makeLive s h.port) h.mask with ports := t.ports } := hrest
        _ = { s with ports := t.ports, preview := t.preview } := by rw [hpreview]; rfl

end Sys2Proof.Proofs
end

section
/-! PROOF. A PUT at a map index (chapter 4, R90) at a receiving port (O18), over rules for the good frames that advance the
pointer: refused by acceptance, refused by their owner, or answered by an owner that changes the map memory alone. -/

namespace Sys2Proof.Proofs

open Sys2Proof.Machine

section Advancing

variable {i : Instr} {h : Header} {c : Command} {owner : State → Answer} {s : State}

/-- A PUT or GET that acceptance refuses is answered NOT_PERMITTED and advances the pointer (R136, R137). -/
theorem answersAndAdvances_of_not_admitted (he : exec i s = .next (takeFrame h c owner s)) (hr : Receives s h.port)
    (ha : ¬ admitted s h.port c = true) (hc : c = .put ∨ c = .get) : AnswersAndAdvances i s h .notPermitted 0 :=
  ⟨_, he, takeFrame_onlyAdvanced (takesTransaction_of_receives hr) (judge_refused (by simpa using ha)) hc⟩

/-- An admitted PUT or GET that its owner answers and changes nothing for advances the pointer alike (R137). -/
theorem answersAndAdvances_of_owner_refuses (he : exec i s = .next (takeFrame h c owner s)) (hr : Receives s h.port)
    (ha : admitted s h.port c = true) {st : Status} {v : BitVec 16}
    (ho : owner (makeLive s h.port) = refuseWith (makeLive s h.port) st v) (hc : c = .put ∨ c = .get) :
    AnswersAndAdvances i s h st v :=
  ⟨_, he, takeFrame_onlyAdvanced (takesTransaction_of_receives hr)
    (by rw [judge_admitted (by simpa using ha)]; exact ho) hc⟩

/-- The state with another map memory. -/
def withMap (s : State) (m : MapRam) : State := { s with map := m }

@[simp] theorem portOf_withMap (s : State) (m : MapRam) (q : Port) : portOf (withMap s m) q = portOf s q := rfl

@[simp] theorem withMap_map (s : State) (m : MapRam) : (withMap s m).map = m := rfl

/-- What a frame does that advances its port's pointer and leaves the map memory m: the answer, and nothing else. -/
structure WroteMap (s t : State) (h : Header) (m : MapRam) (st : Status) (v : BitVec 16) : Prop where
  answered : Answered s t h st v
  port : PortAdvanced s t h.port
  others : OthersKept s t h.port
  map : t.map = m
  rest : t = { s with ports := t.ports, map := t.map }

/-- An admitted PUT or GET whose owner changes the map memory alone. -/
theorem takeFrame_wroteMap (hr : Receives s h.port) (ha : admitted s h.port c = true) (hc : c = .put ∨ c = .get)
    {m : MapRam} {st : Status} {v : BitVec 16}
    (ho : owner (makeLive s h.port) = ⟨withMap (makeLive s h.port) m, st, v⟩) :
    WroteMap s (takeFrame h c owner s) h m st v := by
  obtain ⟨hans, hport, hother, hrest⟩ := takeFrame_admitted hr ha ho ⟨by simp, by simp⟩
  have hlive : PortPointed s (withMap (makeLive s h.port) m) h.port (portOf s h.port).pointer := by
    constructor <;> simp
  have hmap : (takeFrame h c owner s).map = m := congrArg State.map hrest
  rw [if_pos hc, hlive.pointer] at hport
  refine ⟨hans, hlive.trans hport, fun q hq => ?_, hmap, ?_⟩
  · rw [hother q hq, portOf_withMap, portOf_makeLive_ne s hq]
  · rw [hmap]
    exact hrest

theorem admitted_put_iff {p : Port} :
    admitted s p .put = true ↔ (portOf s p).role = .ride ∧ OperatingMode s.mode := by
  simp [admitted, roleAdmits, modeAdmits, or_assoc]

end Advancing

section Writing

/-- What an entry of a memory in its form reads after a write at any offset. -/
theorem read_write {m : Memory} (hm : MemoryLawful m) (a x b : Nat) :
    Memory.read (Memory.write m a x) b = if b = a then x else Memory.read m b := by
  split
  next hb => rw [hb, Memory.read_write_self a x hm.1]
  next hb => exact Memory.read_write_ne x hb hm.1

variable {s : State} {k : Fin 8} {b : Fin 2} (offset v : Nat)

/-- Every slot's entries after a slot's entry is written (R90). -/
theorem read_slotOf_writeSlotEntry (hm : MemoryLawful (slotOf s k).entries) (j : Fin 8) (a : Nat) :
    Memory.read (slotOf (writeSlotEntry k offset v s) j).entries a =
      if j = k ∧ a = offset then v else Memory.read (slotOf s j).entries a := by
  rw [writeSlotEntry, slotOf_setSlot]
  by_cases hj : j = k
  · simp [hj, read_write hm]
  · simp [hj]

/-- Every slot's validity after a slot's entry is written (R90). -/
theorem valid_slotOf_writeSlotEntry (j : Fin 8) :
    (slotOf (writeSlotEntry k offset v s) j).valid = if j = k then true else (slotOf s j).valid := by
  rw [writeSlotEntry, slotOf_setSlot]
  split <;> rfl

/-- Every bank's entries after a bank's entry is written (R90). -/
theorem read_bankOf_writeBankEntry (hm : MemoryLawful (bankOf s b).entries) (c : Fin 2) (a : Nat) :
    Memory.read (bankOf (writeBankEntry b offset v s) c).entries a =
      if c = b ∧ a = offset then v else Memory.read (bankOf s c).entries a := by
  rw [writeBankEntry, bankOf_setBank]
  by_cases hc : c = b
  · simp [hc, read_write hm]
  · simp [hc]

/-- A write of a bank's entry leaves the bindings. -/
theorem binding_bankOf_writeBankEntry (c : Fin 2) :
    (bankOf (writeBankEntry b offset v s) c).binding = (bankOf s c).binding := by
  rw [writeBankEntry, bankOf_setBank]
  split
  next hc => rw [hc]
  next => rfl

/-- A slot's entry is written in the map memory alone, whatever the link of a port. -/
theorem writeSlotEntry_makeLive (p : Port) :
    writeSlotEntry k offset v (makeLive s p) = withMap (makeLive s p) (writeSlotEntry k offset v s).map := rfl

/-- A bank's entry is written in the map memory alone, whatever the link of a port. -/
theorem writeBankEntry_makeLive (p : Port) :
    writeBankEntry b offset v (makeLive s p) = withMap (makeLive s p) (writeBankEntry b offset v s).map := rfl

/-- The slots are read from the map memory alone. -/
theorem slotOf_congr {t u : State} (hmap : t.map = u.map) (j : Fin 8) : slotOf t j = slotOf u j := by
  rw [slotOf, hmap, slotOf]

/-- The banks are read from the map memory alone. -/
theorem bankOf_congr {t u : State} (hmap : t.map = u.map) (c : Fin 2) : bankOf t c = bankOf u c := by
  rw [bankOf, hmap, bankOf]

end Writing

section Owner

variable {s : State} {k : Fin 8} {b : Fin 2} {offset : Nat} {d : BitVec 12}

/-- A slot to which no bank is bound (R25). -/
theorem bankBoundTo_eq_none (hk : ¬ ∃ b, (bankOf s b).binding = some k) : bankBoundTo s k = none := by
  rw [bankBoundTo, if_neg fun h0 => hk ⟨0, h0⟩, if_neg fun h1 => hk ⟨1, h1⟩]

/-- The one bank that is bound to a slot (R25). -/
theorem bankBoundTo_eq_some (hb : (bankOf s b).binding = some k) (hone : ∀ c, (bankOf s c).binding = some k → c = b) :
    bankBoundTo s k = some b := by
  unfold bankBoundTo
  split
  next h0 => rw [hone 0 h0]
  next h0 =>
    match b with
    | 0 => exact absurd hb h0
    | 1 => exact if_pos hb

/-- The place of a map index (Table 7-7). -/
theorem placeOf_mapIndex {x : BitVec 12} (ho : offset < 306) (hx : x.toNat = 0x200 + k.val * 306 + offset) :
    placeOf x = .mapEntry k offset := by
  have hk := k.isLt
  have hslot : (x.toNat - 0x200) / Config.slotEntries = k.val := by rw [Config.slotEntries]; omega
  have hoffset : (x.toNat - 0x200) % Config.slotEntries = offset := by rw [Config.slotEntries]; omega
  simp only [placeOf]
  rw [if_neg (by omega), if_neg (by omega), if_pos (by omega), hslot, hoffset, Fin.ofNat_val_eq_self]

/-- Table 4-8 in CONFIG: the slot is written. -/
theorem putAtEntry_of_config (hm : s.mode = .config) :
    putAtEntry k offset d s =
      ⟨writeSlotEntry k offset (entryValue d) s, entryStatus d, word16 (entryValue d)⟩ := by
  simp only [putAtEntry, hm]

/-- Table 4-8 in CALIBRATE at a bound slot: the bank is written. -/
theorem putAtEntry_of_calibrate_bound (hm : s.mode = .calibrate) (hb : bankBoundTo s k = some b) :
    putAtEntry k offset d s =
      ⟨writeBankEntry b offset (entryValue d) s, entryStatus d, word16 (entryValue d)⟩ := by
  simp only [putAtEntry, hm, hb]

/-- Table 4-8 in RUN, and in CALIBRATE at an unbound slot: nothing is written. -/
theorem putAtEntry_of_run_or_unbound (hm : s.mode = .run ∨ (s.mode = .calibrate ∧ bankBoundTo s k = none)) :
    putAtEntry k offset d s = refuseWith s .notPermitted := by
  obtain hrun | ⟨hcal, hnone⟩ := hm
  · simp only [putAtEntry, hrun]
  · simp only [putAtEntry, hcal, hnone]

/-- PUT and MAP_PUT are one frame (log 17). -/
theorem exec_put_or_mapPut {i : Instr} {h : Header} (hi : i = .put h d ∨ i = .mapPut h d) :
    exec i s = .next (takeFrame h .put (putAtPointer h.port d) s) := by
  obtain rfl | rfl := hi <;> rfl

/-- A PUT whose pointer holds a map index is the entry's (R90). -/
theorem putAtPointer_of_mapIndex {p : Port} (ho : offset < 306)
    (hx : (portOf s p).pointer.toNat = 0x200 + k.val * 306 + offset) :
    putAtPointer p d (makeLive s p) = putAtEntry k offset d (makeLive s p) := by
  have hp : (portOf (makeLive s p) p).pointer = (portOf s p).pointer := by simp
  rw [putAtPointer, hp, placeOf_mapIndex ho hx]

end Owner

/-- Settles O18: acceptance refuses, or the entry's owner refuses or writes the slot or the bank, row by row of Table 4-8;
the form of the written memory gives what its entries read afterwards. -/
theorem mapPutWritesByMode : Obligations.MapPutWritesByMode := by
  intro i h d s k offset hi hr hmaps ho hx v status Bound
  obtain ⟨hslots, hbanks, -, -⟩ := hmaps
  have he := exec_put_or_mapPut (s := s) hi
  have howner := putAtPointer_of_mapIndex (d := d) ho hx
  refine ⟨fun hn => ?_, fun hrole hm => ?_, fun hrole hm => ?_, fun hrole hm b hb hone => ?_⟩
  · exact answersAndAdvances_of_not_admitted he hr (mt admitted_put_iff.mp hn) (.inl rfl)
  · have hop : OperatingMode s.mode := hm.elim (fun hrun => .inr (.inl hrun)) fun hcal => .inr (.inr hcal.1)
    exact answersAndAdvances_of_owner_refuses he hr (admitted_put_iff.mpr ⟨hrole, hop⟩)
      (howner.trans (putAtEntry_of_run_or_unbound (hm.imp_right fun hcal => ⟨hcal.1, bankBoundTo_eq_none hcal.2⟩)))
      (.inl rfl)
  · rw [putAtEntry_of_config (s := makeLive s h.port) hm, writeSlotEntry_makeLive] at howner
    have hw := takeFrame_wroteMap hr (admitted_put_iff.mpr ⟨hrole, .inl hm⟩) (.inl rfl) howner
    refine ⟨_, he, hw.answered, hw.port, hw.others, fun j a => ?_, fun j => ?_, ?_, hw.rest⟩
    · rw [slotOf_congr hw.map]
      exact read_slotOf_writeSlotEntry _ _ (hslots k) j a
    · rw [slotOf_congr hw.map, valid_slotOf_writeSlotEntry]
    · rw [hw.map]
      rfl
  · rw [putAtEntry_of_calibrate_bound (s := makeLive s h.port) hm (bankBoundTo_eq_some hb hone),
      writeBankEntry_makeLive] at howner
    have hw := takeFrame_wroteMap hr (admitted_put_iff.mpr ⟨hrole, .inr (.inr hm)⟩) (.inl rfl) howner
    refine ⟨_, he, hw.answered, hw.port, hw.others, fun c a => ?_, fun c => ?_, ?_, hw.rest⟩
    · rw [bankOf_congr hw.map]
      exact read_bankOf_writeBankEntry _ _ (hbanks b) c a
    · rw [bankOf_congr hw.map, binding_bankOf_writeBankEntry]
    · rw [hw.map]
      rfl

end Sys2Proof.Proofs
end

section
/-! PROOF. The mode controller (chapter 6, R120-R124) at a receiving port (O21-O24), over the equations of an admitted MODE
request, one rule for the frame of a granted request, and the list of what the mode controller can answer. -/

namespace Sys2Proof.Proofs

open Sys2Proof.Machine

section Requests

variable {s : State} {h : Header}

theorem admitted_mode_iff {p : Port} :
    admitted s p .mode = true ↔ (portOf s p).role = .ride ∧ OperatingMode s.mode := by
  simp [admitted, roleAdmits, modeAdmits, or_assoc]

/-- The four MODE commands are one request frame, told apart by its data (Table 7-5). -/
theorem exec_mode_request {i : Instr} {data : BitVec 12}
    (hi : (i = .modeConfig h ∧ data = 0) ∨ (i = .modeRun h ∧ data = 1) ∨ (i = .modeCalibrate h ∧ data = 2) ∨
      (i = .modeInvalidRequest h data ∧ 3 ≤ data.toNat)) :
    exec i s = .next (takeFrame h .mode (requestMode data) s) := by
  obtain ⟨rfl, rfl⟩ | ⟨rfl, rfl⟩ | ⟨rfl, rfl⟩ | ⟨rfl, -⟩ := hi <;> rfl

theorem requestMode_zero : requestMode 0 s = requestConfig s := rfl

theorem requestMode_one : requestMode 1 s = requestRun s := rfl

theorem requestMode_two : requestMode 2 s = requestCalibrate s := rfl

/-- Data of 3 and above names no mode (R120). -/
theorem requestMode_of_three_le {data : BitVec 12} (hd : 3 ≤ data.toNat) :
    requestMode data s = modeAnswer s .badArg := by
  have hne : ∀ n : BitVec 12, n.toNat < 3 → data ≠ n := by
    rintro n hn rfl
    omega
  rw [requestMode, if_neg (hne 0 (by decide)), if_neg (hne 1 (by decide)), if_neg (hne 2 (by decide))]

/-- A request for the present mode is granted and changes nothing (R120). -/
theorem requestMode_of_present {data : BitVec 12} (hop : OperatingMode s.mode) (hd : data.toNat = modeCode s.mode) :
    requestMode data s = modeAnswer s .ok := by
  obtain hm | hm | hm := hop <;> rw [hm] at hd
  · obtain rfl : data = 0 := BitVec.eq_of_toNat_eq hd
    rw [requestMode_zero, requestConfig, hm]
  · obtain rfl : data = 1 := BitVec.eq_of_toNat_eq hd
    rw [requestMode_one, requestRun, hm]
  · obtain rfl : data = 2 := BitVec.eq_of_toNat_eq hd
    rw [requestMode_two, requestCalibrate, hm]

end Requests

section Checks

variable {s : State} {n : Nat}

/-- The model's check of a number is Table 6-3's. -/
theorem consistent_iff : consistent s n = true ↔ CheckPasses s n := by
  match n with
  | 0 | _ + 6 => exact iff_of_true rfl trivial
  | 1 | 2 | 4 => exact decide_eq_true_iff
  | 3 =>
    change (Wheel.all.all fun w => decide (param s (.phase w) < param s .cycleUs)) = true ↔ ∀ w, _
    simp [Wheel.mem_all]
  | 5 =>
    change (Wheel.all.all fun w => namesValidSlot s (.mapselA w) && namesValidSlot s (.mapselB w)) = true ↔ ∀ w, _
    simp [Wheel.mem_all, namesValidSlot]

theorem not_consistent_iff : (!consistent s n) = true ↔ ¬ CheckPasses s n := by
  rw [Bool.not_eq_true', ← consistent_iff, Bool.not_eq_true]

/-- The check that a refusal names fails, and every earlier one passes (R121). -/
theorem failedCheck_eq_some_iff :
    failedCheck s = some n ↔ ¬ CheckPasses s n ∧ (1 ≤ n ∧ n ≤ 5) ∧ ∀ m, 1 ≤ m → m < n → CheckPasses s m := by
  change (List.range' 1 5).find? _ = some n ↔ _
  simp only [List.find?_range'_eq_some, not_consistent_iff, List.mem_range'_1, Bool.not_not, consistent_iff]
  have hrange : n < 1 + 5 ↔ n ≤ 5 := by omega
  rw [hrange]

/-- No refusal names a check exactly when all pass (R121). -/
theorem failedCheck_eq_none_iff : failedCheck s = none ↔ ∀ n, 1 ≤ n → n ≤ 5 → CheckPasses s n := by
  change (List.range' 1 5).find? _ = none ↔ _
  simp only [List.find?_range'_eq_none, Bool.not_not, consistent_iff]
  exact forall_congr' fun n => imp_congr_right fun _ => imp_congr_left (by omega)

/-- The checks read the parameters and the map slots, and no link. -/
theorem failedCheck_makeLive (p : Port) : failedCheck (makeLive s p) = failedCheck s := rfl

end Checks

section Decisions

variable {s : State}

theorem requestRun_of_failed {n : Nat} (hm : s.mode = .config) (hf : failedCheck s = some n) :
    requestRun s = refuseWith s .badArg (word16 n) := by
  simp only [requestRun, hm, hf, refuseWith]

theorem requestRun_of_passed (hm : s.mode = .config) (hf : failedCheck s = none) :
    requestRun s = modeAnswer (changeMode s .run) .ok := by
  simp only [requestRun, hm, hf]

theorem requestRun_of_calibrate (hm : s.mode = .calibrate) :
    requestRun s = modeAnswer (changeMode (unbindBanks s) .run) .ok := by
  simp only [requestRun, hm]

theorem requestCalibrate_granted (hm : s.mode = .run) (hcal : s.calEn = true) (hstill : s.travel.standstill = true) :
    requestCalibrate s = modeAnswer (changeMode s .calibrate) .ok := by
  simp only [requestCalibrate, hm, hcal, hstill, Bool.and_self, if_true]

theorem requestCalibrate_refused (hm : s.mode = .run) (hn : ¬ (s.calEn = true ∧ s.travel.standstill = true)) :
    requestCalibrate s = modeAnswer s .notPermitted := by
  rw [← Bool.and_eq_true] at hn
  simp only [requestCalibrate, hm, if_neg hn]

theorem requestCalibrate_of_config (hm : s.mode = .config) : requestCalibrate s = modeAnswer s .notPermitted := by
  simp only [requestCalibrate, hm]

/-- What the entry to CONFIG does before the mode changes: tables empty, banks unbound, wheels off (R124). -/
def stopped (s : State) : State := wheelsOff (unbindBanks (emptyQueues (emptyDemands s)))

theorem requestConfig_granted (hm : WheelMode s.mode) (hstill : s.travel.standstill = true) :
    requestConfig s = modeAnswer (changeMode (stopped s) .config) .ok := by
  obtain hm | hm := hm <;> simp only [requestConfig, hm, hstill, if_true, enterConfig, stopped]

theorem requestConfig_refused (hm : WheelMode s.mode) (hmoves : s.travel.standstill = false) :
    requestConfig s = modeAnswer s .notPermitted := by
  obtain hm | hm := hm <;> simp only [requestConfig, hm, hmoves, Bool.false_eq_true, if_false]

end Decisions

section Stopping

variable (s : State)

/-- Once every wheel is OFF no wheel cause holds, and its reported mark goes (R114, R146). -/
theorem portOf_wheelsOff (q : Port) :
    portOf (wheelsOff s) q =
      { portOf s q with
        reported := { (portOf s q).reported with wheelFailsafe := false, wheelDegraded := false } } := by
  have hoff : ∀ st, st ≠ .off → someWheelIn { s with wheels := s.wheels.mapWith fun _ r => turnedOff r } st = false := by
    intro st hst
    rw [Bool.eq_false_iff, ne_eq, someWheelIn_iff]
    rintro ⟨w, hw⟩
    rw [wheelOf, PerWheel.get_mapWith] at hw
    exact hst hw.symm
  rw [wheelsOff, settleMarks, portOf_modifyPorts, settledMarks, hoff .failsafe (by decide), hoff .degraded (by decide)]
  simp only [Bool.and_false, Bool.false_and]
  rfl

theorem portOf_stopped (q : Port) :
    portOf (stopped s) q =
      { portOf s q with
        reported := { (portOf s q).reported with wheelFailsafe := false, wheelDegraded := false } } :=
  portOf_wheelsOff _ q

theorem demandOf_stopped (w : Wheel) (src : Source) : demandOf (stopped s) w src = none :=
  demandOf_emptyDemands s w src

theorem queueOf_stopped (w : Wheel) : queueOf (stopped s) w = [] := PerWheel.get_same [] w

theorem bankOf_stopped (b : Fin 2) : bankOf (stopped s) b = { bankOf s b with binding := none } :=
  bankOf_unbindBanks _ b

theorem wheelOf_stopped (w : Wheel) :
    wheelOf (stopped s) w = { wheelOf s w with state := .off, driver := ⟨false, 0⟩, previousTarget := none } :=
  wheelOf_wheelsOff _ w

end Stopping

section Answers

variable {s : State} {h : Header}

/-- A port's becoming LIVE leaves every reported mark. -/
theorem reported_makeLive (s : State) (p q : Port) : (portOf (makeLive s p) q).reported = (portOf s q).reported := by
  by_cases hq : q = p
  · rw [hq, portOf_makeLive_self]
  · rw [portOf_makeLive_ne s hq]

/-- An answer of the mode controller that changes nothing carries the code of the present mode (R120). -/
theorem modeAnswer_makeLive (p : Port) (st : Status) :
    modeAnswer (makeLive s p) st = refuseWith (makeLive s p) st (word16 (modeCode s.mode)) := rfl

/-- A frame that is only answered leaves the mode. -/
theorem mode_of_onlyAnswered {t : State} {st : Status} {v : BitVec 16} (ht : OnlyAnswered s t h st v) :
    t.mode = s.mode := by
  obtain ⟨-, -, -, hrest⟩ := ht
  rw [hrest]

/-- A MODE request is allowed only in the modes that its data can name (Tables 6-1 and 7-6). -/
theorem modeCode_lt_three (hop : OperatingMode s.mode) : modeCode s.mode < 3 := by
  obtain hm | hm | hm := hop <;> rw [hm] <;> decide

/-- A pulse leaves the mode (R29). -/
theorem mode_unlessInReset_takePulse (s : State) : (unlessInReset s takePulse).mode = s.mode := by
  rw [unlessInReset]
  split <;> rfl

end Answers

section Granting

/-- A change of state that leaves every port as it was but for its reported marks. -/
def PortsKeptButMarks (s u : State) : Prop :=
  ∀ q, portOf u q = { portOf s q with reported := (portOf u q).reported }

theorem portsKeptButMarks_self (s : State) : PortsKeptButMarks s s := fun _ => rfl

theorem portsKeptButMarks_unbindBanks (s : State) : PortsKeptButMarks s (unbindBanks s) := fun _ => rfl

theorem portsKeptButMarks_stopped (s : State) : PortsKeptButMarks s (stopped s) := fun q => by
  rw [portOf_stopped]

@[simp] theorem portOf_changeMode (s : State) (m : Mode) (q : Port) :
    portOf (changeMode s m) q = { portOf s q with edges := setEdge (portOf s q).edges .modeChanged true } :=
  portOf_raiseEverywhere ..

/-- What a granted MODE request leaves: the mode m entered and answered, the marks and all the rest as in u, the state
that the mode's entry made. -/
structure EnteredMode (s u t : State) (h : Header) (m : Mode) : Prop where
  mode : t.mode = m
  granted : Granted s t h
  reported : ∀ q, (portOf t q).reported = (portOf u q).reported
  rest : t = { u with ports := t.ports, mode := m }

variable {i : Instr} {s u t : State} {h : Header} {m : Mode} {owner : State → Answer}

theorem EnteredMode.demands (ht : EnteredMode s u t h m) : t.demands = u.demands := by rw [ht.rest]

theorem EnteredMode.preview (ht : EnteredMode s u t h m) : t.preview = u.preview := by rw [ht.rest]

theorem EnteredMode.map (ht : EnteredMode s u t h m) : t.map = u.map := by rw [ht.rest]

theorem EnteredMode.wheels (ht : EnteredMode s u t h m) : t.wheels = u.wheels := by rw [ht.rest]

/-- A mode change raises MODE_CHANGED at the port and leaves its other fields but the link and the marks (R129). -/
theorem portRaised_changeMode {p : Port} (hu : PortsKeptButMarks (makeLive s p) u) :
    PortRaised s (changeMode u m) p .modeChanged := by
  constructor <;> rw [portOf_changeMode, hu] <;> simp

/-- A MODE request that its owner grants (R120, R129). -/
theorem exec_enteredMode (he : exec i s = .next (takeFrame h .mode owner s)) (hr : Receives s h.port)
    (ha : admitted s h.port .mode = true) (ho : owner (makeLive s h.port) = modeAnswer (changeMode u m) .ok)
    (hu : PortsKeptButMarks (makeLive s h.port) u) : ∃ t, exec i s = .next t ∧ EnteredMode s u t h m := by
  refine ⟨_, he, ?_⟩
  obtain ⟨hans, hport, hother, hrest⟩ :=
    takeFrame_admitted hr ha ho ⟨by rw [portOf_changeMode, hu]; simp, by rw [portOf_changeMode, hu]; simp⟩
  have hraised : PortRaised s (changeMode u m) h.port .modeChanged := portRaised_changeMode hu
  have hmode : (takeFrame h .mode owner s).mode = m := congrArg State.mode hrest
  generalize takeFrame h .mode owner s = t at *
  obtain ⟨hrole, hpointer, hstaging, hmask, hedges, hreported⟩ := hport
  rw [if_neg (by decide)] at hpointer
  refine ⟨hmode, ⟨by rwa [hmode], ?_, fun q hq => ?_⟩, fun q => ?_, hrest⟩
  · exact ⟨hrole.trans hraised.role, hpointer.trans hraised.pointer, hstaging.trans hraised.staging,
      hmask.trans hraised.mask, hedges.trans hraised.edges⟩
  · rw [hother q hq, portOf_changeMode, hu, portOf_makeLive_ne s hq]
  · by_cases hq : q = h.port
    · rw [hq, hreported, portOf_changeMode]
    · rw [hother q hq, portOf_changeMode]

end Granting

section Answering

variable {s : State} {data : BitVec 12}

/-- All that the mode controller can answer to an admitted MODE request (R120-R124). -/
inductive ModeDecision (s : State) (data : BitVec 12) : Answer → Prop
  | invalid (hd : 3 ≤ data.toNat) : ModeDecision s data (modeAnswer s .badArg)
  | present (hd : data.toNat = modeCode s.mode) : ModeDecision s data (modeAnswer s .ok)
  | refused (hd : data.toNat < 3) (hne : data.toNat ≠ modeCode s.mode) : ModeDecision s data (modeAnswer s .notPermitted)
  | failed {n : Nat} (hm : s.mode = .config) (hd : data = 1) (hf : failedCheck s = some n) :
    ModeDecision s data (refuseWith s .badArg (word16 n))
  | granted {u : State} {m : Mode} (hd : data.toNat = modeCode m) (hlt : data.toNat < 3)
    (hne : data.toNat ≠ modeCode s.mode) (hu : PortsKeptButMarks s u) :
    ModeDecision s data (modeAnswer (changeMode u m) .ok)

/-- A request for CONFIG from another mode (R124). -/
theorem modeDecision_config (hm : WheelMode s.mode) : ModeDecision s 0 (requestMode 0 s) := by
  have hne : (0 : BitVec 12).toNat ≠ modeCode s.mode := by obtain hm | hm := hm <;> rw [hm] <;> decide
  rw [requestMode_zero]
  by_cases hstill : s.travel.standstill = true
  · rw [requestConfig_granted hm hstill]
    exact .granted (by decide) (by decide) hne (portsKeptButMarks_stopped s)
  · rw [requestConfig_refused hm (Bool.eq_false_iff.mpr hstill)]
    exact .refused (by decide) hne

/-- A request for RUN from another mode (R121, R122). -/
theorem modeDecision_run (hm : s.mode = .config ∨ s.mode = .calibrate) : ModeDecision s 1 (requestMode 1 s) := by
  have hne : (1 : BitVec 12).toNat ≠ modeCode s.mode := by obtain hm | hm := hm <;> rw [hm] <;> decide
  rw [requestMode_one]
  obtain hm | hm := hm
  · cases hf : failedCheck s with
    | some n =>
      rw [requestRun_of_failed hm hf]
      exact .failed hm rfl hf
    | none =>
      rw [requestRun_of_passed hm hf]
      exact .granted (by decide) (by decide) hne (portsKeptButMarks_self s)
  · rw [requestRun_of_calibrate hm]
    exact .granted (by decide) (by decide) hne (portsKeptButMarks_unbindBanks s)

/-- A request for CALIBRATE from another mode (R123). -/
theorem modeDecision_calibrate (hm : s.mode = .config ∨ s.mode = .run) : ModeDecision s 2 (requestMode 2 s) := by
  have hne : (2 : BitVec 12).toNat ≠ modeCode s.mode := by obtain hm | hm := hm <;> rw [hm] <;> decide
  rw [requestMode_two]
  obtain hm | hm := hm
  · rw [requestCalibrate_of_config hm]
    exact .refused (by decide) hne
  · by_cases hn : s.calEn = true ∧ s.travel.standstill = true
    · rw [requestCalibrate_granted hm hn.1 hn.2]
      exact .granted (by decide) (by decide) hne (portsKeptButMarks_self s)
    · rw [requestCalibrate_refused hm hn]
      exact .refused (by decide) hne

/-- Every MODE request in an operating mode is answered in one of the ways listed. -/
theorem modeDecision_requestMode (hop : OperatingMode s.mode) : ModeDecision s data (requestMode data s) := by
  by_cases hinvalid : 3 ≤ data.toNat
  · rw [requestMode_of_three_le hinvalid]
    exact .invalid hinvalid
  by_cases hpresent : data.toNat = modeCode s.mode
  · rw [requestMode_of_present hop hpresent]
    exact .present hpresent
  have hdata : data = 0 ∨ data = 1 ∨ data = 2 := by bv_omega
  obtain rfl | rfl | rfl := hdata
  · have hm : s.mode ≠ .config := fun hm => hpresent (by rw [hm]; rfl)
    exact modeDecision_config (hop.resolve_left hm)
  · have hm : s.mode ≠ .run := fun hm => hpresent (by rw [hm]; rfl)
    exact modeDecision_run (hop.imp_right fun h => h.resolve_left hm)
  · have hm : s.mode ≠ .calibrate := fun hm => hpresent (by rw [hm]; rfl)
    exact modeDecision_calibrate ((or_assoc.mpr hop).resolve_right hm)

end Answering

/-- Settles O21: the first check that fails is the one `failedCheck` names, and where none fails RUN is entered. -/
theorem modeRunFromConfigIsChecked : Obligations.ModeRunFromConfigIsChecked := by
  intro h s hs hm
  obtain ⟨hr, hrole⟩ := hs
  have ha : admitted s h.port .mode = true := admitted_mode_iff.mpr ⟨hrole, .inl hm⟩
  refine ⟨fun n hlo hhi hfails hearlier => ?_, fun hpass => ?_⟩
  · have hf : failedCheck s = some n := failedCheck_eq_some_iff.mpr ⟨hfails, ⟨hlo, hhi⟩, hearlier⟩
    exact answersOnly_of_owner_refuses_with_data rfl hr ha
      (requestRun_of_failed hm ((failedCheck_makeLive h.port).trans hf)) (by decide)
  · have hf : failedCheck s = none := failedCheck_eq_none_iff.mpr hpass
    obtain ⟨t, hexec, ht⟩ := exec_enteredMode (i := .modeRun h) rfl hr ha
      (requestRun_of_passed hm ((failedCheck_makeLive h.port).trans hf)) (portsKeptButMarks_self _)
    refine ⟨t, hexec, ht.mode, ht.granted, fun p => ?_, ht.rest⟩
    rw [ht.reported, reported_makeLive]

/-- Settles O22: the mode controller's answers to MODE CALIBRATE in RUN and CONFIG and to MODE RUN in CALIBRATE; a pulse
works on the travel state alone. -/
theorem calibrateIsEnteredAndLeft : Obligations.CalibrateIsEnteredAndLeft := by
  intro h s hs
  obtain ⟨hr, hrole⟩ := hs
  have ha : OperatingMode s.mode → admitted s h.port .mode = true := fun hop => admitted_mode_iff.mpr ⟨hrole, hop⟩
  refine ⟨fun hm hcal hstill => ?_, fun hm hn => ?_, fun hm => ?_, fun hm => ⟨?_, ?_⟩⟩
  · obtain ⟨t, hexec, ht⟩ := exec_enteredMode (i := .modeCalibrate h) rfl hr (ha (.inr (.inl hm)))
      (requestCalibrate_granted hm hcal hstill) (portsKeptButMarks_self _)
    refine ⟨t, hexec, ht.mode, ht.granted, fun p => ?_, ht.rest⟩
    rw [ht.reported, reported_makeLive]
  · have howner := requestCalibrate_refused (s := makeLive s h.port) hm hn
    rw [modeAnswer_makeLive, hm] at howner
    exact answersOnly_of_owner_refuses_with_data rfl hr (ha (.inr (.inl hm))) howner (by decide)
  · have howner := requestCalibrate_of_config (s := makeLive s h.port) hm
    rw [modeAnswer_makeLive, hm] at howner
    exact answersOnly_of_owner_refuses_with_data rfl hr (ha (.inl hm)) howner (by decide)
  · obtain ⟨t, hexec, ht⟩ := exec_enteredMode (i := .modeRun h) rfl hr (ha (.inr (.inr hm)))
      (requestRun_of_calibrate hm) (portsKeptButMarks_unbindBanks _)
    have hmap : t.map = (unbindBanks s).map := ht.map
    refine ⟨t, hexec, ht.mode, ht.granted, fun p => ?_, fun b => ?_, ?_, ?_⟩
    · exact (ht.reported p).trans (reported_makeLive ..)
    · rw [bankOf_congr hmap, bankOf_unbindBanks]
    · rw [hmap]
      rfl
    · rw [hmap]
      exact ht.rest
  · exact ⟨_, rfl, (mode_unlessInReset_takePulse s).trans hm⟩

/-- Settles O23: with STANDSTILL clear the mode controller refuses, with STANDSTILL set it enters CONFIG from the stopped
state. -/
theorem modeConfigStopsTheWheels : Obligations.ModeConfigStopsTheWheels := by
  intro h s hs hm
  obtain ⟨hr, hrole⟩ := hs
  have ha : admitted s h.port .mode = true := admitted_mode_iff.mpr ⟨hrole, .inr hm⟩
  refine ⟨fun hmoves => ?_, fun hstill => ?_⟩
  · exact answersOnly_of_owner_refuses_with_data rfl hr ha (requestConfig_refused (s := makeLive s h.port) hm hmoves)
      (by decide)
  · obtain ⟨t, hexec, ht⟩ := exec_enteredMode (i := .modeConfig h) rfl hr ha (requestConfig_granted hm hstill)
      (portsKeptButMarks_stopped _)
    have hdemands : t.demands = (stopped s).demands := ht.demands
    have hpreview : t.preview = (stopped s).preview := ht.preview
    have hmap : t.map = (stopped s).map := ht.map
    have hwheels : t.wheels = (stopped s).wheels := ht.wheels
    refine ⟨t, hexec, ht.mode, ht.granted, fun p => ?_, fun w src => ?_, fun w => ?_, ?_, fun b => ?_, ?_, fun w => ?_, ?_⟩
    · rw [ht.reported, portOf_stopped, reported_makeLive]
    · rw [demandOf, hdemands]
      exact demandOf_stopped s w src
    · rw [queueOf, hpreview]
      exact queueOf_stopped s w
    · rw [hpreview]
      rfl
    · rw [bankOf_congr hmap, bankOf_stopped]
    · rw [hmap]
      rfl
    · rw [wheelOf, hwheels]
      exact wheelOf_stopped s w
    · rw [hdemands, hpreview, hmap, hwheels]
      exact ht.rest

/-- Settles O24: the mode controller's answers one by one, as `ModeDecision` lists them. -/
theorem modeRequestsReadBackTheMode : Obligations.ModeRequestsReadBackTheMode := by
  intro i h data s hi hs hop
  obtain ⟨hr, hrole⟩ := hs
  have ha : admitted s h.port .mode = true := admitted_mode_iff.mpr ⟨hrole, hop⟩
  have he := exec_mode_request (s := s) hi
  have hcode : modeCode s.mode < 3 := modeCode_lt_three hop
  generalize howner : requestMode data (makeLive s h.port) = a
  have hdecision : ModeDecision (makeLive s h.port) data a := howner ▸ modeDecision_requestMode hop
  have honly : ∀ {st v}, a = refuseWith (makeLive s h.port) st v → AnswersOnly i s h st v := fun hans =>
    answersOnly_of_owner_refuses_with_data he hr ha (howner.trans hans) (by decide)
  cases hdecision with
  | invalid hd =>
    obtain ⟨t, hexec, ht⟩ := honly (modeAnswer_makeLive ..)
    exact ⟨t, _, _, hexec, ht.1, fun _ => rfl, fun hp => absurd hp (by omega), nofun, fun _ => ht,
      .inl (by rw [mode_of_onlyAnswered ht])⟩
  | present hd =>
    obtain ⟨t, hexec, ht⟩ := honly (modeAnswer_makeLive ..)
    exact ⟨t, _, _, hexec, ht.1, fun h3 => absurd (hd ▸ h3) (not_le.mpr hcode), fun _ => ⟨rfl, ht⟩,
      fun _ => .inl (mode_of_onlyAnswered ht), fun hne => absurd rfl hne, .inl (by rw [mode_of_onlyAnswered ht])⟩
  | refused hlt hne =>
    obtain ⟨t, hexec, ht⟩ := honly (modeAnswer_makeLive ..)
    exact ⟨t, _, _, hexec, ht.1, fun h3 => absurd hlt (not_lt.mpr h3), fun hp => absurd hp hne, nofun, fun _ => ht,
      .inl (by rw [mode_of_onlyAnswered ht])⟩
  | failed hm hd hf =>
    obtain ⟨t, hexec, ht⟩ := honly rfl
    obtain ⟨hfails, hrange, -⟩ := failedCheck_eq_some_iff.mp ((failedCheck_makeLive h.port).symm.trans hf)
    refine ⟨t, _, _, hexec, ht.1, fun _ => rfl, fun hp => ?_, nofun, fun _ => ht,
      .inr ⟨hm, hd, rfl, _, hrange.1, hrange.2, rfl, hfails⟩⟩
    subst hd
    exact absurd (hp.trans (congrArg modeCode hm)) (by decide)
  | granted hd hlt hne hu =>
    obtain ⟨t, hexec, ht⟩ := exec_enteredMode he hr ha howner hu
    exact ⟨t, _, _, hexec, ht.granted.1, fun h3 => absurd hlt (not_lt.mpr h3), fun hp => absurd hp hne,
      fun _ => .inr (by rw [ht.mode, hd]), fun hn => absurd rfl hn, .inl rfl⟩

end Sys2Proof.Proofs
end

section
/-! PROOF. The acceptance of frames (Table 7-6, R136) and framing errors (R133) (O4, O31), over three rules: every command
that a frame carries is a taken frame with the command of its acceptance row, what the arrival of an error leaves, and
what a response placed in its slot leaves. -/

namespace Sys2Proof.Proofs

open Sys2Proof.Machine

section Acceptance

theorem role_mem_all (r : Role) : r = .none ∨ r = .ride ∨ r = .stability ∨ r = .preview := by
  cases r <;> decide

theorem role_ne_none_iff (r : Role) : r ≠ .none ↔ r = .ride ∨ r = .stability ∨ r = .preview := by
  cases r <;> decide

theorem mode_mem_all (m : Mode) : m = .loading ∨ m = .config ∨ m = .run ∨ m = .calibrate ∨ m = .shutdown := by
  cases m <;> decide

theorem mode_ne_loading_iff (m : Mode) : m ≠ .loading ↔ m = .config ∨ m = .run ∨ m = .calibrate ∨ m = .shutdown := by
  cases m <;> decide

/-- The two tests of acceptance are Table 7-6: command by command, both sides list the same roles and the same modes, and
a test that admits every role or mode, or all but one, is a list of those admitted. -/
theorem admits_iff_tableAdmits (c : Command) (r : Role) (m : Mode) :
    (roleAdmits c r && modeAdmits c m) = true ↔ TableAdmits c r m := by
  cases c <;> simp [TableAdmits, acceptanceTable, roleAdmits, modeAdmits, or_assoc, role_mem_all, mode_mem_all,
    mode_ne_loading_iff, role_ne_none_iff, -ne_eq]

/-- A command that a good frame carries is the taking of that frame, whatever its owner (R134). -/
theorem exec_of_frameOf {i : Instr} {h : Header} {c : Command} (hf : frameOf i = some (h, c)) (s : State) :
    ∃ owner, exec i s = .next (takeFrame h c owner s) := by
  cases i <;> cases hf <;> exact ⟨_, rfl⟩

end Acceptance

section Tag

/-- The word of received bits, bit by bit from the top downward; a bit not received reads 0 (R133). -/
theorem getLsbD_wordOfBits (n : Nat) (bits : List Bool) {k : Nat} (hk : k < n) :
    (wordOfBits n bits).getLsbD (n - 1 - k) = bits.getD k false := by
  induction n generalizing bits k with
  | zero => omega
  | succ n ih =>
    cases bits with
    | nil => simp [wordOfBits]
    | cons b rest =>
      rw [wordOfBits, BitVec.getLsbD_cons]
      cases k with
      | zero => simp
      | succ k =>
        have hpos : n + 1 - 1 - (k + 1) = n - 1 - k := by omega
        rw [if_neg (by omega), List.getD_cons_succ, hpos, ih rest (Nat.lt_of_succ_lt_succ hk)]

/-- The tag echoed for a framing error is the received bits 21 to 23, which stand at bits 10 to 8 (R133). -/
theorem getLsbD_receivedTag (bits : List Bool) {k : Nat} (hk : k < 3) :
    (receivedTag bits).getLsbD (2 - k) = bits.getD (21 + k) false := by
  have hword := getLsbD_wordOfBits 32 bits (k := 21 + k) (by omega)
  have hpos : 8 + (2 - k) = 32 - 1 - (21 + k) := by omega
  rw [receivedTag, frameTag, BitVec.getLsbD_extractLsb', decide_eq_true (by omega), Bool.true_and, hpos, hword]

end Tag

section Logging

variable {s : State} (k : BankId) (c : ErrorCode) (info : Option Nat)

theorem edgeIn_setEdge_iff (x : EdgeSet) (e f : EdgeCause) :
    edgeIn (setEdge x e true) f = true ↔ edgeIn x f = true ∨ f = e := by
  by_cases hf : f = e
  · simp [hf]
  · simp [setEdge_in_ne x true hf, hf]

/-- With distinct roles the holder of a role is the port that has it (R135). -/
theorem holder_eq_some_iff (hd : RolesDistinct s) {r : Role} (hn : r ≠ .none) (p : Port) :
    holder s r = some p ↔ (portOf s p).role = r :=
  ⟨role_of_holder, fun hr => holder_of_role hd hr hn⟩

/-- An arriving error adds BANK_LOGGED to the edge causes of the RIDE port and touches nothing else of any port (R145,
R151). -/
theorem portEdged_logError (hd : RolesDistinct s) (q : Port) :
    PortEdged s (logError s k c info) q (LoggedAt s q) := by
  have hport := portOf_logError s k c info q
  simp only [holder_eq_some_iff hd (by decide : Role.ride ≠ .none)] at hport
  by_cases hride : (portOf s q).role = .ride
  · rw [if_pos hride] at hport
    exact ⟨by rw [hport], fun e => by rw [hport, edgeIn_setEdge_iff, LoggedAt, and_iff_left hride]⟩
  · rw [if_neg hride] at hport
    have hnone : ∀ e, ¬ LoggedAt s q e := fun _ ⟨_, hrole⟩ => hride hrole
    exact ⟨by rw [hport], fun e => by rw [hport, or_iff_left (hnone e)]⟩

theorem bankTook_logError : BankTook s (logError s k c info) k [(c, info)] :=
  fun j => errorBank_logError s k j c info

/-- An arriving error touches the ports and the banks alone (R151). -/
theorem logError_rest :
    logError s k c info =
      { s with ports := (logError s k c info).ports, errors := (logError s k c info).errors } := by
  rw [State.mk.injEq]
  simp

end Logging

section Responding

variable (s : State) (p : Port) (tag : BitVec 3) (st : Status) (v : BitVec 16)

theorem portOf_respond_self :
    portOf (respond s p tag st v) p =
      { portOf s p with response := ⟨st, tag, alertOf s p, v⟩, transaction := .idle } :=
  portOf_modifyPort_self ..

theorem portOf_respond_ne {q : Port} (hq : q ≠ p) : portOf (respond s p tag st v) q = portOf s q :=
  portOf_modifyPort_ne _ _ hq

/-- The ALERT state that a response carries is still the port's once the response stands in its slot (R131). -/
theorem alertOf_respond : alertOf (respond s p tag st v) p = alertOf s p :=
  alertOf_congr rfl rfl (by rw [portOf_respond_self]) (by rw [portOf_respond_self])

theorem respond_rest : respond s p tag st v = { s with ports := (respond s p tag st v).ports } := rfl

/-- A framing error at a receiving port is logged, then answered (R133). -/
theorem exec_framingError_of_receives {s : State} {p : Port} (hr : Receives s p) (bits : List Bool) :
    exec (.framingError p bits) s =
      .next (respond (logError s .link (framingCode bits) (some p.num)) p (receivedTag bits) .frameError 0) :=
  congrArg Host.Outcome.next (if_pos (takesTransaction_of_receives hr))

end Responding

/-- Settles O4: every frame is a taken frame, and where the table does not admit its command, acceptance refuses it; PUT
and GET advance the pointer all the same. -/
theorem unadmittedFramesAreRefused : Obligations.UnadmittedFramesAreRefused := by
  refine ⟨admits_iff_tableAdmits, fun i h c s hf hr hn => ?_⟩
  have ha : ¬ admitted s h.port c = true := mt (admits_iff_tableAdmits c _ _).mp hn
  obtain ⟨owner, he⟩ := exec_of_frameOf hf s
  split
  · next hc => exact answersAndAdvances_of_not_admitted he hr ha hc
  · next hc => exact answersOnly_of_not_admitted he hr ha hc

/-- Settles O31: the error's arrival edges the ports and fills the LINK bank, and the response that follows touches its
own slot alone. -/
theorem framingErrorsAreLoggedAndAnswered : Obligations.FramingErrorsAreLoggedAndAnswered := by
  intro p bits s hr hd _
  have hedged := portEdged_logError .link (framingCode bits) (some p.num) hd
  obtain ⟨hself, hadded⟩ := hedged p
  refine ⟨_, receivedTag bits, exec_framingError_of_receives hr bits, fun k => getLsbD_receivedTag bits, ?_, ?_,
    fun q hq => ?_, bankTook_logError .link _ _, ?_⟩
  · rw [alertOf_respond, portOf_respond_self, hself]
  · rw [EdgesAdded, portOf_respond_self]
    exact hadded
  · rw [PortEdged, EdgesAdded, portOf_respond_ne _ _ _ _ _ hq]
    exact hedged q
  · rw [respond_rest, logError_rest]

end Sys2Proof.Proofs
end

section
/-! PROOF. The error banks over time (R151) (O50), from one inversion of `exec` at a bank: a command that does not empty the
bank only lets errors arrive there. Each event and each owner of a frame either leaves the banks alone or logs errors. -/

namespace Sys2Proof.Proofs

open Sys2Proof.Machine

section Taking

/-- A bank after errors have arrived in their order (R151). -/
def takeErrors (b : ErrorRecord) (errors : List (ErrorCode × Option Nat)) : ErrorRecord :=
  errors.foldl (fun b e => takeError b e.1 e.2) b

theorem takeErrors_cons (b : ErrorRecord) (e : ErrorCode × Option Nat) (errors : List (ErrorCode × Option Nat)) :
    takeErrors b (e :: errors) = takeErrors (takeError b e.1 e.2) errors := rfl

theorem takeErrors_append (b : ErrorRecord) (xs ys : List (ErrorCode × Option Nat)) :
    takeErrors b (xs ++ ys) = takeErrors (takeErrors b xs) ys := List.foldl_append

/-- A bank that holds no uncorrected error takes the arriving one, OVERFLOW counting an error that it replaces (R151). -/
theorem takeError_replaces {b : ErrorRecord} (hb : b.valid = false ∨ b.uncorrected = false) (c : ErrorCode)
    (info : Option Nat) :
    takeError b c info = ⟨true, isUncorrected c, b.overflow || b.valid, c, info.isSome, info.getD 0⟩ :=
  if_neg (by simpa [← Bool.not_eq_true, imp_iff_not_or] using hb)

/-- Of two errors that meet, a first one that is uncorrected stays; any other gives way to the second (R151). -/
theorem takeError_takeError {b : ErrorRecord} (hb : b.valid = false ∨ b.uncorrected = false)
    (x y : ErrorCode × Option Nat) :
    takeError (takeError b x.1 x.2) y.1 y.2 =
      let held := if isUncorrected x.1 = true then x else y
      ⟨true, isUncorrected held.1, true, held.1, held.2.isSome, held.2.getD 0⟩ := by
  rw [takeError_replaces hb]
  by_cases hx : isUncorrected x.1 = true
  · rw [takeError_uncorrected rfl hx, if_pos hx]
  · rw [takeError_replaces (.inr (Bool.eq_false_iff.mpr hx)), if_neg hx, Bool.or_true]

/-- Whatever errors arrive, an uncorrected error in the bank keeps all but OVERFLOW (R151). -/
theorem takeErrors_uncorrected {b : ErrorRecord} (hv : b.valid = true) (hu : b.uncorrected = true)
    (errors : List (ErrorCode × Option Nat)) :
    takeErrors b errors = { b with overflow := (takeErrors b errors).overflow } := by
  induction errors generalizing b with
  | nil => rfl
  | cons e errors ih =>
    rw [takeErrors_cons, takeError_uncorrected hv hu]
    exact ih (b := { b with overflow := true }) hv hu

end Taking

section Arriving

/-- From s to t nothing has happened at a bank but the arrival of errors (R151). -/
def OnlyErrorsArrive (s t : State) (k : BankId) : Prop := ∃ errors, errorBank t k = takeErrors (errorBank s k) errors

variable {s t u : State} {k : BankId}

theorem OnlyErrorsArrive.trans (hu : OnlyErrorsArrive s u k) (ht : OnlyErrorsArrive u t k) : OnlyErrorsArrive s t k := by
  obtain ⟨xs, hxs⟩ := hu
  obtain ⟨ys, hys⟩ := ht
  exact ⟨xs ++ ys, by rw [takeErrors_append, ← hxs, hys]⟩

theorem onlyErrorsArrive_of_errorBank_eq (h : errorBank t k = errorBank s k) : OnlyErrorsArrive s t k := ⟨[], h⟩

theorem errorBank_congr (h : t.errors = s.errors) : errorBank t k = errorBank s k := by cases k <;> simp [errorBank, h]

theorem onlyErrorsArrive_of_errors_eq (h : t.errors = s.errors) : OnlyErrorsArrive s t k :=
  onlyErrorsArrive_of_errorBank_eq (errorBank_congr h)

/-- A change that leaves the banks alone, after others. -/
theorem OnlyErrorsArrive.keep (hu : OnlyErrorsArrive s u k) (h : t.errors = u.errors) : OnlyErrorsArrive s t k :=
  hu.trans (onlyErrorsArrive_of_errors_eq h)

theorem onlyErrorsArrive_of_bankTook {j : BankId} {errors : List (ErrorCode × Option Nat)} (h : BankTook s t j errors) :
    OnlyErrorsArrive s t k := by
  by_cases hk : k = j
  · exact ⟨errors, by rw [h, if_pos hk, hk]; rfl⟩
  · exact onlyErrorsArrive_of_errorBank_eq (by rw [h, if_neg hk])

/-- An error logged at any bank, after other changes. -/
theorem OnlyErrorsArrive.log (hu : OnlyErrorsArrive s u k) (j : BankId) (c : ErrorCode) (info : Option Nat) :
    OnlyErrorsArrive s (logError u j c info) k :=
  hu.trans (onlyErrorsArrive_of_bankTook (bankTook_logError j c info))

/-- A change that leaves the banks alone, an error logged, and the banks left alone again. -/
theorem onlyErrorsArrive_of_log {j : BankId} {c : ErrorCode} {info : Option Nat} (hu : u.errors = s.errors)
    (ht : t.errors = (logError u j c info).errors) : OnlyErrorsArrive s t k :=
  ((onlyErrorsArrive_of_errors_eq hu).log j c info).keep ht

theorem onlyErrorsArrive_unlessInReset {f : State → State} (h : OnlyErrorsArrive s (f s) k) :
    OnlyErrorsArrive s (unlessInReset s f) k := by
  unfold unlessInReset
  split
  · exact onlyErrorsArrive_of_errors_eq rfl
  · exact h

/-- A frame does at the banks what its owner does (R134). -/
theorem onlyErrorsArrive_takeFrame {h : Header} {c : Command} {owner : State → Answer}
    (ho : ∀ u, OnlyErrorsArrive u (owner u).state k) : OnlyErrorsArrive s (takeFrame h c owner s) k := by
  have hlive : OnlyErrorsArrive s (makeLive s h.port) k := onlyErrorsArrive_of_errors_eq rfl
  by_cases ht : takesTransaction s h.port = true
  · have hjudged : OnlyErrorsArrive s (judge (makeLive s h.port) h.port c owner).state k := by
      unfold judge
      split
      · exact hlive.trans (ho _)
      · exact hlive
    exact hjudged.keep (by rw [takeFrame_rest ht])
  · rw [takeFrame_dropped (Bool.eq_false_iff.mpr ht)]
    exact onlyErrorsArrive_of_errors_eq rfl

end Arriving

section Owners

variable (h : Header) (p : Port) (data : BitVec 12) (s : State)

@[simp] theorem okWith_state (v : BitVec 16) : (okWith s v).state = s := rfl

@[simp] theorem refuseWith_state (st : Status) (v : BitVec 16) : (refuseWith s st v).state = s := rfl

@[simp] theorem modeAnswer_state (st : Status) : (modeAnswer s st).state = s := rfl

@[simp] theorem setLevel_errors : (setLevel h data s).state.errors = s.errors := by unfold setLevel; split <;> rfl

@[simp] theorem setFloor_errors : (setFloor h data s).state.errors = s.errors := by unfold setFloor; split <;> rfl

@[simp] theorem release_errors : (release h s).state.errors = s.errors := by unfold release; split <;> rfl

@[simp] theorem stageLevel_errors : (stageLevel p data s).state.errors = s.errors := rfl

@[simp] theorem stageSpan_errors : (stageSpan p data s).state.errors = s.errors := by unfold stageSpan; split <;> rfl

@[simp] theorem placePreview_errors : (placePreview h data s).state.errors = s.errors := by
  simp only [placePreview, apply_ite Answer.state, apply_ite State.errors, okWith_state, refuseWith_state,
    raiseAtRole_errors, insertStaged, ite_self]

@[simp] theorem cancelPreview_errors : (cancelPreview h s).state.errors = s.errors := by
  unfold cancelPreview; split <;> rfl

@[simp] theorem selectIndex_errors : (selectIndex p data s).state.errors = s.errors := rfl

@[simp] theorem putAtParam_errors (k : Param) : (putAtParam k data s).state.errors = s.errors := by
  simp only [putAtParam, apply_ite Answer.state, apply_ite State.errors, refuseWith_state, storeParam_errors, ite_self]

@[simp] theorem putAtEntry_errors (k : Fin 8) (offset : Nat) : (putAtEntry k offset data s).state.errors = s.errors := by
  unfold putAtEntry; split <;> rfl

@[simp] theorem putAtPointer_errors : (putAtPointer p data s).state.errors = s.errors := by
  unfold putAtPointer; split <;> simp

@[simp] theorem getAtPointer_errors : (getAtPointer p s).state.errors = s.errors := by
  unfold getAtPointer; split <;> rfl

@[simp] theorem requestConfig_errors : (requestConfig s).state.errors = s.errors := by
  unfold requestConfig; (repeat' split) <;> rfl

@[simp] theorem requestRun_errors : (requestRun s).state.errors = s.errors := by
  unfold requestRun; (repeat' split) <;> rfl

@[simp] theorem requestCalibrate_errors : (requestCalibrate s).state.errors = s.errors := by
  unfold requestCalibrate; (repeat' split) <;> rfl

@[simp] theorem requestMode_errors : (requestMode data s).state.errors = s.errors := by
  simp only [requestMode, apply_ite Answer.state, apply_ite State.errors, requestConfig_errors, requestRun_errors,
    requestCalibrate_errors, modeAnswer_state, ite_self]

@[simp] theorem takeNotice_errors : (takeNotice p s).state.errors = s.errors := by unfold takeNotice; split <;> simp

@[simp] theorem takeNoticeMask_errors : (takeNoticeMask p data s).state.errors = s.errors := by
  unfold takeNoticeMask; split <;> rfl

@[simp] theorem startProgram_errors : (startProgram p data s).state.errors = s.errors := by
  unfold startProgram; (repeat' split) <;> rfl

@[simp] theorem takeBind_errors (bank code : BitVec 4) : (takeBind bank code s).state.errors = s.errors := by
  unfold takeBind; (repeat' split) <;> rfl

@[simp] theorem takeCommit_errors : (takeCommit data s).state.errors = s.errors := by
  unfold takeCommit; (repeat' split) <;> rfl

end Owners

section Events

variable (s : State)

/-- An event that leaves the banks alone leaves them alone while a reset lasts too. -/
theorem unlessInReset_errors {f : State → State} (h : (f s).errors = s.errors) :
    (unlessInReset s f).errors = s.errors := by
  unfold unlessInReset
  split
  · rfl
  · exact h

@[simp] theorem leaveCalibrate_errors : (leaveCalibrate s).errors = s.errors := by unfold leaveCalibrate; split <;> rfl

@[simp] theorem fallCalEn_errors : (fallCalEn s).errors = s.errors :=
  unlessInReset_errors { s with calEn := false } (leaveCalibrate_errors _)

@[simp] theorem makeAdvance_errors : (makeAdvance s).errors = s.errors := by unfold makeAdvance; split <;> rfl

@[simp] theorem expireStandstill_errors : (expireStandstill s).errors = s.errors := by
  unfold expireStandstill; split <;> rfl

@[simp] theorem expireDemand_errors (w : Wheel) (src : Source) : (expireDemand w src s).errors = s.errors := by
  unfold expireDemand; (repeat' split) <;> rfl

@[simp] theorem beginPeriod_errors : (beginPeriod s).errors = s.errors := by unfold beginPeriod; split <;> rfl

@[simp] theorem completeLoad_errors : (completeLoad s).errors = s.errors := by
  unfold completeLoad; (repeat' split) <;> rfl

end Events

section Logging

variable (k : BankId) (s : State)

theorem onlyErrorsArrive_framingError (p : Port) (bits : List Bool) :
    OnlyErrorsArrive s (takeFramingError p bits s) k := by
  unfold takeFramingError
  split
  · exact onlyErrorsArrive_of_log rfl (respond_errors ..)
  · exact onlyErrorsArrive_of_errors_eq rfl

theorem onlyErrorsArrive_expireLink (p : Port) : OnlyErrorsArrive s (expireLink p s) k := by
  have hraised : OnlyErrorsArrive s (raiseAtOthers (removeOrigin p (silencePort p s)) .linkLost p) k :=
    onlyErrorsArrive_of_errors_eq rfl
  unfold expireLink
  split
  · exact hraised.log ..
  · exact onlyErrorsArrive_of_errors_eq rfl

theorem onlyErrorsArrive_abortOperation (o : Operation) : OnlyErrorsArrive s (abortOperation s o) k :=
  onlyErrorsArrive_of_log (setImage_errors ..) (endOperation_errors ..)

theorem onlyErrorsArrive_abortProgram : OnlyErrorsArrive s (abortProgram s).state k := by
  unfold abortProgram
  split
  · exact onlyErrorsArrive_abortOperation k s _
  · exact onlyErrorsArrive_of_errors_eq rfl

theorem onlyErrorsArrive_abortInFlight : OnlyErrorsArrive s (abortInFlight s) k := by
  unfold abortInFlight
  split
  · exact onlyErrorsArrive_abortOperation k s _
  · exact onlyErrorsArrive_of_errors_eq rfl

/-- At the entry to SHUTDOWN the abort of an operation in flight alone touches the banks (R126). -/
theorem onlyErrorsArrive_enterShutdown : OnlyErrorsArrive s (enterShutdown s) k := by
  have hstopped : OnlyErrorsArrive s
      (stopLinks (stopTimer (wheelsOff (unbindBanks (emptyQueues (emptyDemands s)))))) k :=
    onlyErrorsArrive_of_errors_eq (by simp)
  exact (hstopped.trans (onlyErrorsArrive_abortInFlight k _)).keep (changeMode_errors ..)

theorem onlyErrorsArrive_assertSafe : OnlyErrorsArrive s (assertSafe s) k := by
  have hlow : OnlyErrorsArrive s { s with safeLow := true } k := onlyErrorsArrive_of_errors_eq rfl
  refine hlow.trans (onlyErrorsArrive_unlessInReset ?_)
  unfold safeStop
  split
  · exact onlyErrorsArrive_of_errors_eq rfl
  · exact onlyErrorsArrive_enterShutdown k _

theorem onlyErrorsArrive_completeInFlight (good : Bool) : OnlyErrorsArrive s (completeInFlight good s) k := by
  unfold completeInFlight
  split
  · unfold completeOperation
    split
    · exact onlyErrorsArrive_of_errors_eq (by simp)
    · exact onlyErrorsArrive_of_log (setImage_errors ..) (endOperation_errors ..)
  · exact onlyErrorsArrive_of_errors_eq rfl

theorem onlyErrorsArrive_loadParameters : OnlyErrorsArrive s (loadParameters s) k := by
  unfold loadParameters
  split
  · split
    · exact onlyErrorsArrive_of_errors_eq rfl
    · exact onlyErrorsArrive_of_log (loadNext_errors ..) rfl
  · exact onlyErrorsArrive_of_errors_eq rfl

theorem onlyErrorsArrive_loadSlot (slot : Fin 8) : OnlyErrorsArrive s (loadSlot slot s) k := by
  unfold loadSlot
  split
  · split
    · exact onlyErrorsArrive_of_errors_eq rfl
    · exact onlyErrorsArrive_of_log (loadNext_errors ..) rfl
  · exact onlyErrorsArrive_of_errors_eq rfl

theorem onlyErrorsArrive_takeShort (w : Wheel) : OnlyErrorsArrive s (takeShort w s) k := by
  unfold takeShort
  split
  · exact onlyErrorsArrive_of_log (modifyWheel_errors ..) (settleMarks_errors ..)
  · exact onlyErrorsArrive_of_errors_eq rfl

end Logging

section Cycle

variable (k : BankId) (s : State) (w : Wheel)

/-- The sample's errors: none, STROKE_RANGE, or STROKE_LOST after it (R61, R62). -/
theorem onlyErrorsArrive_logSample (c : Nat) (x : Stroke) : OnlyErrorsArrive s (logSample s w c x) k := by
  have hranged : OnlyErrorsArrive s (logError s (.wheel w) .strokeRange (some c)) k := onlyErrorsArrive_of_log rfl rfl
  unfold logSample
  split
  · exact onlyErrorsArrive_of_errors_eq rfl
  · dsimp only
    split
    · exact hranged.log ..
    · exact hranged

theorem onlyErrorsArrive_logRegulation (r : WheelRecord) : OnlyErrorsArrive s (logRegulation s w r) k := by
  unfold logRegulation
  split
  · exact onlyErrorsArrive_of_log rfl rfl
  · exact onlyErrorsArrive_of_errors_eq rfl

/-- The checks' errors: REGULATION, then COIL_OPEN (R110, R111). -/
theorem onlyErrorsArrive_checkedCycle (r : WheelRecord) : OnlyErrorsArrive s (checkedCycle s w r) k := by
  have hlogged := onlyErrorsArrive_logRegulation k s w r
  unfold checkedCycle
  dsimp only
  split
  · exact (hlogged.keep (modifyWheel_errors ..)).log ..
  · exact hlogged.keep (modifyWheel_errors ..)

/-- A cycle expiry logs the sample's errors, then those of the checks (R57). -/
theorem onlyErrorsArrive_runExpiry (c measured phase : Nat) : OnlyErrorsArrive s (runExpiry w c measured phase s) k := by
  have htimed : OnlyErrorsArrive s { s with timer := { s.timer with counter := phase } } k :=
    onlyErrorsArrive_of_errors_eq rfl
  have hsampled := htimed.trans (onlyErrorsArrive_logSample k _ w c (wheelOf s w).stroke)
  refine OnlyErrorsArrive.keep ?_ (settleMarks_errors ..)
  split
  · exact hsampled.trans (onlyErrorsArrive_checkedCycle k _ w _)
  · exact hsampled.keep (modifyWheel_errors ..)

theorem onlyErrorsArrive_takeExpiry (c measured : Nat) : OnlyErrorsArrive s (takeExpiry w c measured s) k := by
  obtain ⟨phase, -, hrun⟩ | ⟨-, hnone⟩ := takeExpiry_cases w c measured s
  · rw [hrun]
    exact onlyErrorsArrive_runExpiry k s w c measured phase
  · rw [hnone]
    exact onlyErrorsArrive_of_errors_eq rfl

end Cycle

section Ending

variable (k : BankId) (s : State)

theorem onlyErrorsArrive_logConflict (p : Port) (conflict : Bool) : OnlyErrorsArrive s (logConflict p conflict s) k := by
  unfold logConflict
  split
  · exact onlyErrorsArrive_of_log rfl rfl
  · exact onlyErrorsArrive_of_errors_eq rfl

/-- The end of a reset logs the role conflicts, and the abort of an operation where SAFE is low (R126, R135). -/
theorem onlyErrorsArrive_finishReset (a b c : BitVec 2) : OnlyErrorsArrive s (finishReset a b c s) k := by
  have hfixed : OnlyErrorsArrive s (fixRoles (assignedRoles a b c) { s with inReset := false }) k :=
    onlyErrorsArrive_of_errors_eq rfl
  have hassigned : OnlyErrorsArrive s (assignRoles a b c { s with inReset := false }) k :=
    (hfixed.trans (onlyErrorsArrive_logConflict k _ .b _)).trans (onlyErrorsArrive_logConflict k _ .c _)
  have hbegun : OnlyErrorsArrive s (beginLoad (formResponses (assignRoles a b c { s with inReset := false }))) k :=
    hassigned.keep rfl
  unfold finishReset
  dsimp only
  split
  · exact hbegun.trans (onlyErrorsArrive_enterShutdown k _)
  · exact hbegun

end Ending

section Clearing

theorem eq_bankNum_of_bankIdOf {n : Nat} {k : BankId} (h : bankIdOf n = some k) : n = bankNum k := by
  unfold bankIdOf at h
  split at h <;> cases h <;> rfl

/-- CLEAR_BANK leaves every bank but the one it names (R152). -/
theorem errorBank_clearBank {data : BitVec 12} {k : BankId} (hk : data.toNat ≠ bankNum k) (s : State) :
    errorBank (clearBank data s).state k = errorBank s k := by
  unfold clearBank
  split
  · next j hj =>
    have hne : k ≠ j := fun h => hk (h ▸ eq_bankNum_of_bankIdOf hj)
    calc errorBank (clearLatchOf j (setErrorBank s j ErrorRecord.clear)) k
        = errorBank (setErrorBank s j ErrorRecord.clear) k := errorBank_congr (clearLatchOf_errors ..)
      _ = errorBank s k := by rw [errorBank_setErrorBank, if_neg hne]
  · rfl

end Clearing

/-- Of all commands, only a power-on reset and CLEAR_BANK of the bank do more at a bank than let errors arrive (R150-R152). -/
theorem onlyErrorsArrive_of_exec {i : Instr} {s t : State} {k : BankId} (he : exec i s = .next t)
    (hp : i ≠ .powerOnReset) (hc : ∀ h d, i = .clearBank h d → d.toNat ≠ bankNum k) : OnlyErrorsArrive s t k := by
  cases i <;> cases he
  case nop | select | setLevel | setFloor | release | previewLevel | previewSpan | previewAt | previewCancel | put | mapPut
      | get | modeConfig | modeRun | modeCalibrate | modeInvalidRequest | notice | noticeMask | storeProgram | overlayBind
      | overlayUnbind | overlayCommit | unassignedCommand =>
    exact onlyErrorsArrive_takeFrame fun u => onlyErrorsArrive_of_errors_eq (by simp)
  case clearBank h data =>
    exact onlyErrorsArrive_takeFrame fun u => onlyErrorsArrive_of_errorBank_eq (errorBank_clearBank (hc h data rfl) u)
  case storeAbort => exact onlyErrorsArrive_takeFrame (onlyErrorsArrive_abortProgram k)
  case framingError p bits => exact onlyErrorsArrive_framingError k s p bits
  case safeReleased | calEnRise | chipSelectFall | resetLineReset => exact onlyErrorsArrive_of_errors_eq rfl
  case calEnFall => exact onlyErrorsArrive_of_errors_eq (fallCalEn_errors s)
  case travelPulse | millisecondBoundary => exact onlyErrorsArrive_of_errors_eq (unlessInReset_errors s rfl)
  case advance | standstillExpiry | demandRecordExpiry | periodStart | loadCompletion =>
    exact onlyErrorsArrive_of_errors_eq (unlessInReset_errors s (by simp))
  case safeAsserted => exact onlyErrorsArrive_assertSafe k s
  case linkTimerExpiry p => exact onlyErrorsArrive_unlessInReset (onlyErrorsArrive_expireLink k s p)
  case cycleExpiry w code measured => exact onlyErrorsArrive_unlessInReset (onlyErrorsArrive_takeExpiry k s w _ _)
  case shortDetected w => exact onlyErrorsArrive_unlessInReset (onlyErrorsArrive_takeShort k s w)
  case storeCompletion good => exact onlyErrorsArrive_unlessInReset (onlyErrorsArrive_completeInFlight k s good)
  case parameterBlockLoad => exact onlyErrorsArrive_unlessInReset (onlyErrorsArrive_loadParameters k s)
  case slotLoad slot => exact onlyErrorsArrive_unlessInReset (onlyErrorsArrive_loadSlot k s slot)
  case powerOnReset => exact absurd rfl hp
  case resetEnd a b c =>
    split
    · exact onlyErrorsArrive_finishReset k s a b c
    · exact onlyErrorsArrive_of_errors_eq rfl

/-- Settles O50: the rows of an arrival are the cases of `takeError`, and over a command an uncorrected error meets only
arrivals, none of which it gives way to. -/
theorem errorBanksFollowTheirLaw : Obligations.ErrorBanksFollowTheirLaw := by
  refine ⟨fun s k c info hd => ?_, fun b x y hb => takeError_takeError hb x y, fun i s t k he hv hu hp hc => ?_⟩
  · have htaken : errorBank (logError s k c info) k = takeError (errorBank s k) c info := by
      rw [errorBank_logError, if_pos rfl]
    refine ⟨fun j hj => ?_, fun hv => ?_, fun hv hu => ?_, fun hv hu => ?_, portEdged_logError k c info hd,
      logError_rest k c info⟩
    · rw [errorBank_logError, if_neg hj]
    · rw [htaken, takeError_replaces (.inl hv), hv, Bool.or_false]
    · rw [htaken, takeError_replaces (.inr hu), hv, Bool.or_true]
    · rw [htaken, takeError_uncorrected hv hu]
  · obtain ⟨errors, harrived⟩ := onlyErrorsArrive_of_exec he hp hc
    rw [harrived]
    exact takeErrors_uncorrected hv hu errors

end Sys2Proof.Proofs
end

section
/-! PROOF. What a command can do, said once: the plumbing that no invariant reads (responses, transactions, edges, error
banks, lines, counts), the effects proper with the conditions under which they come, and the inversion of `exec` into
plumbing, one effect, plumbing. Every step law below is two facts: plumbing keeps it, and each effect keeps it. -/

namespace Sys2Proof.Proofs

open Sys2Proof.Machine

section Core

/-- A port keeps what the laws of the device read of it; its link timer may move where the link timers run, and its index
pointer where that is allowed. -/
structure QuietPort (operating moves : Prop) (x y : PortState) : Prop where
  role : y.role = x.role
  staging : y.staging = x.staging
  reported : y.reported = x.reported
  linkTimer : operating ∨ y.linkTimer = x.linkTimer
  pointer : moves ∨ y.pointer = x.pointer

/-- From s to t nothing changed that a law of the device speaks of; index pointers may have moved at the ports named by
`moves`. -/
structure CoreKept (moves : Port → Prop) (s t : State) : Prop where
  inReset : t.inReset = s.inReset
  mode : t.mode = s.mode
  demands : t.demands = s.demands
  position : t.travel.position = s.travel.position
  accumulator : t.travel.accumulator = s.travel.accumulator
  preview : t.preview = s.preview
  running : t.timer.running = s.timer.running
  period : t.timer.period = s.timer.period
  wheels : t.wheels = s.wheels
  params : t.params = s.params
  map : t.map = s.map
  store : t.store = s.store
  pending : t.pending = s.pending
  ports : ∀ p, QuietPort (OperatingMode s.mode) (moves p) (portOf s p) (portOf t p)

variable {moves : Port → Prop} {s t u : State}

theorem QuietPort.refl {operating moves : Prop} (x : PortState) : QuietPort operating moves x x :=
  ⟨rfl, rfl, rfl, .inr rfl, .inr rfl⟩

theorem QuietPort.trans {operating moves : Prop} {x y z : PortState} (h : QuietPort operating moves x y)
    (k : QuietPort operating moves y z) : QuietPort operating moves x z where
  role := k.role.trans h.role
  staging := k.staging.trans h.staging
  reported := k.reported.trans h.reported
  linkTimer := h.linkTimer.elim .inl fun e => k.linkTimer.imp_right (·.trans e)
  pointer := h.pointer.elim .inl fun e => k.pointer.imp_right (·.trans e)

theorem CoreKept.refl (s : State) : CoreKept moves s s := by
  constructor
  case ports => exact fun _ => QuietPort.refl _
  all_goals rfl

theorem CoreKept.trans (h : CoreKept moves s t) (k : CoreKept moves t u) : CoreKept moves s u where
  inReset := k.inReset.trans h.inReset
  mode := k.mode.trans h.mode
  demands := k.demands.trans h.demands
  position := k.position.trans h.position
  accumulator := k.accumulator.trans h.accumulator
  preview := k.preview.trans h.preview
  running := k.running.trans h.running
  period := k.period.trans h.period
  wheels := k.wheels.trans h.wheels
  params := k.params.trans h.params
  map := k.map.trans h.map
  store := k.store.trans h.store
  pending := k.pending.trans h.pending
  ports p := (h.ports p).trans (h.mode ▸ k.ports p)

/-- A change of one port that is quiet there. -/
theorem coreKept_modifyPort {p : Port} {f : PortState → PortState}
    (hf : QuietPort (OperatingMode s.mode) (moves p) (portOf s p) (f (portOf s p))) :
    CoreKept moves s (modifyPort s p f) := by
  constructor
  case ports =>
    intro q
    rw [portOf_modifyPort]
    split
    · next hq => exact hq ▸ hf
    · exact QuietPort.refl _
  all_goals rfl

/-- A change of every port that is quiet at each. -/
theorem coreKept_modifyPorts {f : Port → PortState → PortState}
    (hf : ∀ p, QuietPort (OperatingMode s.mode) (moves p) (portOf s p) (f p (portOf s p))) :
    CoreKept moves s (modifyPorts s f) := by
  constructor
  case ports => exact fun q => by rw [portOf_modifyPorts]; exact hf q
  all_goals rfl

/-- The pending edge causes of a port are plumbing. -/
theorem quietPort_edges {operating moves : Prop} (x : PortState) (e : EdgeSet) :
    QuietPort operating moves x { x with edges := e } := ⟨rfl, rfl, rfl, .inr rfl, .inr rfl⟩

theorem coreKept_makeLive (s : State) (p : Port) : CoreKept moves s (makeLive s p) :=
  coreKept_modifyPort ⟨rfl, rfl, rfl, .inr rfl, .inr rfl⟩

theorem coreKept_dropTransaction (s : State) (p : Port) : CoreKept moves s (dropTransaction s p) :=
  coreKept_modifyPort ⟨rfl, rfl, rfl, .inr rfl, .inr rfl⟩

theorem coreKept_beginTransaction (s : State) (p : Port) : CoreKept moves s (beginTransaction p s) :=
  coreKept_modifyPort ⟨rfl, rfl, rfl, .inr rfl, .inr rfl⟩

theorem coreKept_respond (s : State) (p : Port) (tag : BitVec 3) (st : Status) (v : BitVec 16) :
    CoreKept moves s (respond s p tag st v) :=
  coreKept_modifyPort ⟨rfl, rfl, rfl, .inr rfl, .inr rfl⟩

/-- The link timer restarts in the operating modes alone (R141). -/
theorem coreKept_restartLink (s : State) (p : Port) : CoreKept moves s (restartLink s p) := by
  refine coreKept_modifyPort ⟨rfl, rfl, rfl, ?_, .inr rfl⟩
  change OperatingMode s.mode ∨ restartedLink s p = _
  cases hm : s.mode <;> simp [restartedLink, hm, OperatingMode]

theorem coreKept_pointerStep (c : Command) (s : State) (p : Port) (hc : c = .put ∨ c = .get → moves p) :
    CoreKept moves s (pointerStep c s p) := by
  unfold pointerStep
  split
  · next h => exact coreKept_modifyPort ⟨rfl, rfl, rfl, .inr rfl, .inl (hc h)⟩
  · exact CoreKept.refl s

theorem coreKept_raiseAt (s : State) (e : EdgeCause) (p : Port) : CoreKept moves s (raiseAt s e p) :=
  coreKept_modifyPort (quietPort_edges _ _)

theorem coreKept_raiseEverywhere (s : State) (e : EdgeCause) : CoreKept moves s (raiseEverywhere s e) :=
  coreKept_modifyPorts fun _ => quietPort_edges _ _

theorem coreKept_raiseAtOthers (s : State) (e : EdgeCause) (p : Port) : CoreKept moves s (raiseAtOthers s e p) :=
  coreKept_modifyPorts fun q => by
    split
    · exact QuietPort.refl _
    · exact quietPort_edges _ _

theorem coreKept_raiseAtRole (s : State) (e : EdgeCause) (r : Role) : CoreKept moves s (raiseAtRole s e r) := by
  unfold raiseAtRole
  split
  · exact coreKept_raiseAt ..
  · exact CoreKept.refl s

theorem coreKept_setErrorBank (s : State) (k : BankId) (r : ErrorRecord) : CoreKept moves s (setErrorBank s k r) := by
  constructor
  case ports =>
    intro p
    have hp : portOf (setErrorBank s k r) p = portOf s p := by simp [portOf]
    exact hp ▸ QuietPort.refl _
  all_goals simp

/-- An arriving error changes a bank and an edge cause (R151). -/
theorem coreKept_logError (s : State) (k : BankId) (c : ErrorCode) (info : Option Nat) :
    CoreKept moves s (logError s k c info) :=
  (coreKept_setErrorBank ..).trans (coreKept_raiseAtRole ..)

/-- An entered mode, MODE_CHANGED apart. -/
theorem coreKept_changeMode (s : State) (m : Mode) : CoreKept moves { s with mode := m } (changeMode s m) :=
  coreKept_raiseEverywhere ..

theorem coreKept_logSample (s : State) (w : Wheel) (c : Nat) (k : Stroke) : CoreKept moves s (logSample s w c k) := by
  unfold logSample
  split
  · exact CoreKept.refl s
  · dsimp only
    split
    · exact (coreKept_logError ..).trans (coreKept_logError ..)
    · exact coreKept_logError ..

theorem coreKept_logRegulation (s : State) (w : Wheel) (r : WheelRecord) : CoreKept moves s (logRegulation s w r) := by
  unfold logRegulation
  split
  · exact coreKept_logError ..
  · exact CoreKept.refl s

theorem coreKept_logConflict (p : Port) (conflict : Bool) (s : State) : CoreKept moves s (logConflict p conflict s) := by
  unfold logConflict
  split
  · exact coreKept_logError ..
  · exact CoreKept.refl s

end Core

section Edges

/-- From s to t no port changed but in its pending edge causes. -/
structure EdgesOnly (s t : State) : Prop where
  port : ∀ p, portOf t p = { portOf s p with edges := (portOf t p).edges }

variable {s t u : State}

theorem edgesOnly_of_ports_eq (h : t.ports = s.ports) : EdgesOnly s t where
  port p := by
    have hp : portOf t p = portOf s p := by rw [portOf, h, portOf]
    rw [hp]

theorem EdgesOnly.trans (h : EdgesOnly s t) (k : EdgesOnly t u) : EdgesOnly s u where
  port p := by
    have hu := k.port p
    rw [h.port p] at hu
    exact hu

theorem edgesOnly_raiseAt (s : State) (e : EdgeCause) (p : Port) : EdgesOnly s (raiseAt s e p) where
  port q := by
    rw [portOf_raiseAt]
    split <;> rfl

theorem edgesOnly_raiseAtRole (s : State) (e : EdgeCause) (r : Role) : EdgesOnly s (raiseAtRole s e r) where
  port q := by
    rw [portOf_raiseAtRole]
    split <;> rfl

theorem edgesOnly_raiseEverywhere (s : State) (e : EdgeCause) : EdgesOnly s (raiseEverywhere s e) where
  port q := by rw [portOf_raiseEverywhere]

theorem edgesOnly_logError (s : State) (k : BankId) (c : ErrorCode) (info : Option Nat) :
    EdgesOnly s (logError s k c info) where
  port q := by
    rw [portOf_logError]
    split <;> rfl

theorem edgesOnly_changeMode (s : State) (m : Mode) : EdgesOnly s (changeMode s m) := ⟨fun p => by rw [portOf_changeMode]⟩

theorem edgesOnly_endOperation (s : State) (o : Operation) (status : StoreStatus) : EdgesOnly s (endOperation s o status) :=
  ⟨(edgesOnly_raiseAt { s with store := { s.store with operation := none, status := status } } .storeDone o.port).port⟩

theorem edgesOnly_abortOperation (s : State) (o : Operation) : EdgesOnly s (abortOperation s o) :=
  ((edgesOnly_of_ports_eq (setImage_ports ..)).trans (edgesOnly_logError ..)).trans (edgesOnly_endOperation ..)

theorem edgesOnly_abortInFlight (s : State) : EdgesOnly s (abortInFlight s) := by
  unfold abortInFlight
  split
  · exact edgesOnly_abortOperation ..
  · exact edgesOnly_of_ports_eq rfl

/-- A port at the entry to SHUTDOWN: its link timer stopped, its wheel marks cleared, its edge causes apart (R126). -/
theorem portOf_enterShutdown (s : State) (p : Port) :
    portOf (enterShutdown s) p =
      { portOf s p with
        linkTimer := none
        reported := { (portOf s p).reported with wheelFailsafe := false, wheelDegraded := false }
        edges := (portOf (enterShutdown s) p).edges } := by
  have hstopped : portOf (stopLinks (stopTimer (stopped s))) p =
      { portOf s p with
        linkTimer := none
        reported := { (portOf s p).reported with wheelFailsafe := false, wheelDegraded := false } } := by
    rw [stopLinks, portOf_modifyPorts]
    exact congrArg (fun x : PortState => { x with linkTimer := none }) (portOf_stopped s p)
  have hended : EdgesOnly (stopLinks (stopTimer (stopped s))) (enterShutdown s) :=
    (edgesOnly_abortInFlight _).trans (edgesOnly_changeMode ..)
  have hport := hended.port p
  rw [hstopped] at hport
  exact hport

end Edges

section Effects

/-- An operation that has ended with a status: its image written, good or invalid, none in flight (R155, R156). -/
def operationOver (s : State) (o : Operation) (good : Bool) (status : StoreStatus) : State :=
  { setImage s o.capture good with
    store := { (setImage s o.capture good).store with operation := none, status := status } }

/-- The wheel record as steps 1 to 3 leave it, with the measured current (R57, R108). -/
def strokedRecord (s : State) (w : Wheel) (c measured phase : Nat) : WheelRecord :=
  { strokeSteps s w c phase (wheelOf s w) with measured := measured }

/-- The wheel record as a cycle expiry leaves it (R57, Table 3-2). -/
def expiryRecord (s : State) (w : Wheel) (c measured phase : Nat) : WheelRecord :=
  let r := strokedRecord s w c measured phase
  if isRunning (wheelOf s w).state then
    if findsOpen r then tripped (countedChecks r) else settleWheel s w (countedChecks r)
  else settleWheel s w r

/-- The state with another record of one wheel, the reported marks brought up to date (R146). -/
def withWheel (s : State) (w : Wheel) (r : WheelRecord) : State := settleMarks s (modifyWheel s w fun _ => r)

/-- The state after one fixed advance (R31, R46). -/
def advancedState (s : State) : State :=
  { s with
    travel := { s.travel with position := s.travel.position + 1, advances := s.travel.advances - 1 }
    preview :=
      { s.preview with queues := s.preview.queues.mapWith fun _ q => updatedQueue (s.travel.position + 1) q } }

/-- The state after the start of a period (R55). -/
def periodState (s : State) : State :=
  { s with
    timer :=
      { s.timer with
        counter := 0
        period := some (takenPeriod s)
        periodStart := s.timer.periodStart + periodLength s } }

/-- The roles fixed and the load begun at the end of a reset (R135, R154). -/
def rolesGiven (a b c : BitVec 2) (s : State) : State :=
  beginLoad (fixRoles (assignedRoles a b c) { s with inReset := false })

/-- The end of a reset but for an entry to SHUTDOWN (R135, R130, R154). -/
def begunState (a b c : BitVec 2) (s : State) : State :=
  beginLoad (formResponses (assignRoles a b c { s with inReset := false }))

/-- What a command does to what the laws of the device speak of, with the conditions under which it does so. -/
inductive Effect (i : Instr) (s : State) : State → Prop
  | nothing : Effect i s s
  | demandsSet (h : Header) (src : Source) (r : Option DemandRecord) (outside : s.inReset = false)
      (mode : OperatingMode s.mode) (role : (portOf s h.port).role = sourceRole src)
      (record : ∀ x, r = some x → x.origin = h.port ∧ x.level ≤ 1023 ∧ (x.attr.isSome = true ↔ src = .ride)) :
      Effect i s (setNamedDemands s h.mask src r)
  | demandExpired (w : Wheel) (src : Source) : Effect i s (setDemand s w src none)
  | silenced (p : Port) : Effect i s (removeOrigin p (silencePort p s))
  | staged (p : Port) (f : Staging → Staging) (lawful : ∀ g, StagingLawful g → StagingLawful (f g)) :
      Effect i s (modifyStaging s p f)
  | inserted (h : Header) (d : BitVec 12) (mode : WheelMode s.mode)
      (span : (portOf s h.port).staging.spanStaged = true) (room : fullNamed h.mask s = 0) :
      Effect i s (insertStaged s h.mask (portOf s h.port).staging d.toNat)
  | cancelled (mask : BitVec 4) : Effect i s (cancelNamed s mask)
  | pulsed : Effect i s (takePulse s)
  | advanced : Effect i s (advancedState s)
  | periodBegun (running : s.timer.running = true) : Effect i s (periodState s)
  | paramStored (k : Param) (v : Int) (lo : paramLo k ≤ v) (hi : v ≤ paramHi k) (mode : OperatingMode s.mode)
      (live : s.mode ≠ .config → paramLive k = true ∧ breaksAxle s.params k v = false) : Effect i s (storeParam k v s)
  | slotWritten (k : Fin 8) (offset v : Nat) (mode : s.mode = .config) (ho : offset < Config.slotEntries)
      (hv : v ≤ Config.entryMax) : Effect i s (writeSlotEntry k offset v s)
  | bankWritten (b : Fin 2) (offset v : Nat) (ho : offset < Config.slotEntries) (hv : v ≤ Config.entryMax) :
      Effect i s (writeBankEntry b offset v s)
  | bankBound (b : Fin 2) (k : Fin 8) (mode : s.mode = .calibrate) (other : (bankOf s (otherBank b)).binding ≠ some k) :
      Effect i s (bindBank b k s)
  | bankUnbound (b : Fin 2) : Effect i s (unbindBank b s)
  | bankCommitted (b : Fin 2) (k : Fin 8) : Effect i s (commitBank b k s)
  | runEntered (mode : s.mode = .config) (checks : failedCheck s = none) : Effect i s { s with mode := .run }
  | calibrateEntered (mode : s.mode = .run) : Effect i s { s with mode := .calibrate }
  | calibrateLeft (mode : s.mode = .calibrate) : Effect i s { unbindBanks s with mode := .run }
  | configEntered (mode : WheelMode s.mode) : Effect i s { stopped s with mode := .config }
  | shutDown (outside : s.inReset = false) : Effect i s (enterShutdown s)
  | noticed (h : Header) (d : BitVec 12) (l : LevelCause) (notice : i = .notice h d) (holds : levelHolds s l = true) :
      Effect i s (acknowledge s h.port (.level l))
  | latchCleared (k : BankId) : Effect i s (clearLatchOf k s)
  | expired (w : Wheel) (c measured phase : Nat) (code : c ≤ 4095) (range : measured ≤ 2600)
      (comes : expiryPhase s w = some phase) : Effect i s (withWheel s w (expiryRecord s w c measured phase))
  | shorted (w : Wheel) (drives : (wheelOf s w).driver.regulating = true) :
      Effect i s (withWheel s w (tripped (wheelOf s w)))
  | programStarted (p : Port) (n : Nat) (c : Capture) (mode : s.mode = .config ∨ s.mode = .calibrate)
      (idle : s.store.status ≠ .busy) (captured : captureOf s n = some c) :
      Effect i s { s with store := { s.store with operation := some ⟨p, c⟩, status := .busy } }
  | operationEnded (o : Operation) (good : Bool) (status : StoreStatus) (flies : s.store.operation = some o)
      (idle : status ≠ .busy) : Effect i s (operationOver s o good status)
  | paramsLoaded (ps : Params) (crc : BitVec 16) (due : s.store.load = some .parameterBlock)
      (image : s.store.paramImage = .stored ps crc) : Effect i s (loadNext { s with params := ps } (some (.slot 0)))
  | slotLoaded (k : Fin 8) (m : Memory) (crc : BitVec 16) (due : s.store.load = some (.slot k))
      (image : s.store.slotImages[k] = .stored m crc) :
      Effect i s (loadNext (setSlot s k ⟨m, true⟩) (some (afterSlot k)))
  | loadPassed (l : LoadStep) (due : s.store.load ≠ none) : Effect i s (loadNext s (some l))
  | loadEnded (due : s.store.load ≠ none) (mode : s.mode = .loading) :
      Effect i s { startTimer s with mode := .config, store := { s.store with load := none, status := .ok } }
  | loadEndedLate (due : s.store.load ≠ none) (mode : s.mode ≠ .loading) :
      Effect i s { s with store := { s.store with load := none, status := .ok } }
  | reset (banks : ErrorBanks) (command : i = .powerOnReset ∨ i = .resetLineReset) : Effect i s (startReset banks s)
  | resetEnded (a b c : BitVec 2) (command : i = .resetEnd a b c) (lasts : s.inReset = true) :
      Effect i s (begunState a b c s)
  | resetEndedLow (a b c : BitVec 2) (command : i = .resetEnd a b c) (lasts : s.inReset = true) :
      Effect i s (enterShutdown (begunState a b c s))

/-- The ports whose index pointer a command may move (R137). -/
def PointerMoves (i : Instr) (p : Port) : Prop :=
  ∃ h c, frameOf i = some (h, c) ∧ h.port = p ∧ (c = .select ∨ c = .put ∨ c = .get)

/-- From s to t a command does one effect, with plumbing before and after it. -/
def Course (i : Instr) (s t : State) : Prop :=
  ∃ u v, CoreKept (PointerMoves i) s u ∧ Effect i u v ∧ CoreKept (PointerMoves i) v t

variable {i : Instr} {s t u : State}

theorem Course.of_effect (h : Effect i s t) : Course i s t := ⟨s, t, .refl s, h, .refl t⟩

theorem Course.of_core (h : CoreKept (PointerMoves i) s t) : Course i s t := ⟨s, s, .refl s, .nothing, h⟩

theorem Course.of_eq (h : t = s) : Course i s t := by
  rw [h]
  exact .of_core (.refl s)

/-- An effect with plumbing after it. -/
theorem Effect.andThen (h : Effect i s u) (k : CoreKept (PointerMoves i) u t) : Course i s t := ⟨s, u, .refl s, h, k⟩

theorem Course.before (h : CoreKept (PointerMoves i) s u) (k : Course i u t) : Course i s t := by
  obtain ⟨x, y, hx, he, hy⟩ := k
  exact ⟨x, y, h.trans hx, he, hy⟩

theorem Course.after (h : Course i s u) (k : CoreKept (PointerMoves i) u t) : Course i s t := by
  obtain ⟨x, y, hx, he, hy⟩ := h
  exact ⟨x, y, hx, he, hy.trans k⟩

/-- A law that plumbing and every effect keep is kept by a command. -/
theorem Course.keeps {P : State → Prop} (hc : ∀ {s t}, CoreKept (PointerMoves i) s t → P s → P t)
    (he : ∀ {s t}, Effect i s t → P s → P t) (h : Course i s t) (hs : P s) : P t := by
  obtain ⟨x, y, hx, hxy, hy⟩ := h
  exact hc hy (he hxy (hc hx hs))

/-- An event that does its work outside a reset alone. -/
theorem course_unlessInReset {f : State → State} (h : s.inReset = false → Course i s (f s)) :
    Course i s (unlessInReset s f) := by
  unfold unlessInReset
  split
  · exact .of_eq rfl
  · next hr => exact h (Bool.eq_false_iff.mpr hr)

/-- A frame does what its owner does where acceptance admits it, outside a reset (R134). -/
theorem course_takeFrame {h : Header} {c : Command} {owner : State → Answer} (hf : frameOf i = some (h, c))
    (ho : ∀ u, u.inReset = false → admitted u h.port c = true → Course i u (owner u).state) :
    Course i s (takeFrame h c owner s) := by
  unfold takeFrame
  split
  · next ht =>
    have hr : s.inReset = false := by simp_all [takesTransaction]
    have hj : Course i (makeLive s h.port) (judge (makeLive s h.port) h.port c owner).state := by
      unfold judge
      split
      · next ha => exact ho _ hr ha
      · exact .of_eq rfl
    refine Course.before (coreKept_makeLive ..) (hj.after ?_)
    exact ((coreKept_pointerStep c _ _ fun hc => ⟨h, c, hf, rfl, .inr hc⟩).trans (coreKept_restartLink ..)).trans
      (coreKept_respond ..)
  · exact .of_core (coreKept_dropTransaction ..)

end Effects

section Congruence

variable {moves : Port → Prop} {s t : State}

theorem coreKept_withStore (f : MapStore → MapStore) (h : CoreKept moves s t) :
    CoreKept moves { s with store := f s.store } { t with store := f t.store } :=
  { h with store := by rw [h.store] }

theorem coreKept_withCounter (s : State) (n : Nat) : CoreKept moves s { s with timer := { s.timer with counter := n } } := by
  constructor
  case ports => exact fun _ => QuietPort.refl _
  all_goals rfl

theorem coreKept_modifyWheel (w : Wheel) (f : WheelRecord → WheelRecord) (h : CoreKept moves s t) :
    CoreKept moves (modifyWheel s w f) (modifyWheel t w f) :=
  { h with wheels := by simp only [modifyWheel, h.wheels] }

/-- The reported marks are settled by the wheel states alone (R146). -/
theorem settledMarks_congr {before x y : State} (h : y.wheels = x.wheels) (m : MarkSet) :
    settledMarks before y m = settledMarks before x m := by
  simp only [settledMarks, someWheelIn, newlyIn, wheelOf, h]

theorem coreKept_settleMarks (before : State) (h : CoreKept moves s t) :
    CoreKept moves (settleMarks before s) (settleMarks before t) where
  inReset := h.inReset
  mode := h.mode
  demands := h.demands
  position := h.position
  accumulator := h.accumulator
  preview := h.preview
  running := h.running
  period := h.period
  wheels := h.wheels
  params := h.params
  map := h.map
  store := h.store
  pending := h.pending
  ports p := by
    obtain ⟨hrole, hstaging, hreported, htimer, hpointer⟩ := h.ports p
    simp only [settleMarks, portOf_modifyPorts]
    exact ⟨hrole, hstaging, by rw [settledMarks_congr h.wheels, hreported], htimer, hpointer⟩

/-- Settling reads the mode, the demands, the queues, the parameters and the map memories (R20, R79, R101). -/
theorem settleWheel_congr (h : CoreKept moves s t) (w : Wheel) (r : WheelRecord) : settleWheel t w r = settleWheel s w r := by
  have ht : t = { t with mode := s.mode, preview := s.preview, demands := s.demands, params := s.params, map := s.map } := by
    rw [← h.mode, ← h.preview, ← h.demands, ← h.params, ← h.map]
  rw [ht]
  rfl

end Congruence

section Owners

variable {i : Instr} {u : State} {h : Header} {p : Port} {data : BitVec 12}

theorem dataLevel_le (data : BitVec 12) : dataLevel data ≤ 1023 := by
  have := (data.extractLsb' 2 10).isLt
  rw [dataLevel]
  omega

theorem course_setLevel (hr : u.inReset = false) (ha : admitted u h.port .setLevel = true) :
    Course i u (setLevel h data u).state := by
  obtain ⟨hrole, hmode⟩ := admitted_setLevel_iff.mp ha
  unfold setLevel
  split
  · exact .of_eq rfl
  · refine .of_effect (.demandsSet h .ride _ hr hmode hrole ?_)
    rintro x ⟨⟩
    exact ⟨rfl, dataLevel_le data, by simp⟩

theorem course_setFloor (hr : u.inReset = false) (ha : admitted u h.port .setFloor = true) :
    Course i u (setFloor h data u).state := by
  obtain ⟨hrole, hmode⟩ := admitted_setFloor_iff.mp ha
  unfold setFloor
  split
  · exact .of_eq rfl
  · refine .of_effect (.demandsSet h .stability _ hr hmode hrole ?_)
    rintro x ⟨⟩
    exact ⟨rfl, dataLevel_le data, by simp⟩

theorem course_release (hr : u.inReset = false) (ha : admitted u h.port .release = true) :
    Course i u (release h u).state := by
  obtain ⟨hrole, hmode⟩ := admitted_release_iff.mp ha
  unfold release
  split
  · exact .of_eq rfl
  · obtain hrole | hrole := hrole <;> rw [hrole]
    · exact .of_effect (.demandsSet h .ride none hr hmode hrole nofun)
    · exact .of_effect (.demandsSet h .stability none hr hmode hrole nofun)

theorem course_stageLevel : Course i u (stageLevel p data u).state :=
  .of_effect (.staged p
    (fun g => { g with level := dataLevel data, attr := dataAttr data, copyFlag := dataCopy data, levelStaged := true })
    fun _ hg => ⟨dataLevel_le data, hg.2⟩)

theorem course_stageSpan : Course i u (stageSpan p data u).state := by
  unfold stageSpan
  split
  · exact .of_eq rfl
  · next hd =>
    have hpos : 1 ≤ data.toNat := Nat.one_le_iff_ne_zero.mpr fun h0 => hd (BitVec.eq_of_toNat_eq h0)
    exact .of_effect (.staged p (fun g => { g with span := data.toNat, spanStaged := true })
      fun _ hg => ⟨hg.1, Nat.le_of_lt_succ data.isLt, by simpa using hpos⟩)

theorem course_placePreview (ha : admitted u h.port .preview = true) : Course i u (placePreview h data u).state := by
  obtain ⟨-, hmode⟩ := admitted_preview_iff.mp ha
  rw [placePreview_eq]
  split
  · exact .of_eq rfl
  split
  · exact .of_eq rfl
  split
  · exact .of_eq rfl
  · next hg hroom =>
    have hspan : (portOf u h.port).staging.spanStaged = true := by simp_all
    refine (Effect.inserted h data hmode hspan (not_not.mp hroom)).andThen ?_
    simp only [okWith_state, insertedOrDropped]
    split
    · exact coreKept_raiseAtRole ..
    · exact .refl _

theorem course_cancelPreview : Course i u (cancelPreview h u).state := by
  unfold cancelPreview
  split
  · exact .of_eq rfl
  · exact .of_effect (.cancelled h.mask)

/-- SELECT moves the pointer alone (R137). -/
theorem course_selectIndex (hi : PointerMoves i p) : Course i u (selectIndex p data u).state :=
  .of_core (coreKept_modifyPort ⟨rfl, rfl, rfl, .inr rfl, .inl hi⟩)

theorem clampToRange_mem (k : Param) (v : Int) : paramLo k ≤ clampToRange k v ∧ clampToRange k v ≤ paramHi k := by
  have hrange : paramLo k ≤ paramHi k := by cases k <;> simp [paramLo, paramHi]
  unfold clampToRange
  split
  · exact ⟨le_refl _, hrange⟩
  · split <;> omega

theorem course_putAtParam (ha : OperatingMode u.mode) (k : Param) : Course i u (putAtParam k data u).state := by
  obtain ⟨hlo, hhi⟩ := clampToRange_mem k (putValue k data)
  unfold putAtParam
  dsimp only
  split
  · exact .of_eq rfl
  split
  · exact .of_eq rfl
  · next hlive hbreaks =>
    refine .of_effect (.paramStored k _ hlo hhi ha fun hm => ⟨?_, ?_⟩)
    · exact Bool.eq_true_of_not_eq_false fun hl => hlive ⟨hm, hl⟩
    · exact Bool.eq_false_iff.mpr fun hb => hbreaks ⟨hm, hb⟩

theorem entryValue_le (data : BitVec 12) : entryValue data ≤ Config.entryMax := Nat.min_le_right _ _

theorem course_putAtEntry (k : Fin 8) {offset : Nat} (ho : offset < Config.slotEntries) :
    Course i u (putAtEntry k offset data u).state := by
  unfold putAtEntry
  split
  · next hm => exact .of_effect (.slotWritten k offset _ hm ho (entryValue_le data))
  · exact .of_effect (.bankWritten _ offset _ ho (entryValue_le data))
  · exact .of_eq rfl

/-- No read-only index is a map index (Table 7-7). -/
theorem readOnlyPlace_ne_mapEntry (x : Nat) (k : Fin 8) (offset : Nat) : readOnlyPlace x ≠ .mapEntry k offset := by
  simp only [readOnlyPlace, fourWheels, ne_eq, ite_eq_iff]
  simp

/-- A map index names an offset of its slot (Table 7-7). -/
theorem offset_lt_of_placeOf {x : BitVec 12} {k : Fin 8} {offset : Nat} (hp : placeOf x = .mapEntry k offset) :
    offset < Config.slotEntries := by
  have hlt : ∀ n, n % Config.slotEntries < Config.slotEntries := fun n => Nat.mod_lt n (by decide)
  rw [placeOf] at hp
  split at hp
  · split at hp <;> cases hp
  split at hp
  · exact absurd hp (readOnlyPlace_ne_mapEntry _ _ _)
  split at hp
  · injection hp with _ ho
    exact ho ▸ hlt _
  split at hp
  · cases hp
  split at hp <;> cases hp

theorem course_putAtPointer (ha : admitted u p .put = true) : Course i u (putAtPointer p data u).state := by
  unfold putAtPointer
  split
  · exact course_putAtParam (admitted_put_iff.mp ha).2 _
  · next hp => exact course_putAtEntry _ (offset_lt_of_placeOf hp)
  · exact .of_eq rfl

theorem course_getAtPointer : Course i u (getAtPointer p u).state := by
  unfold getAtPointer
  split <;> exact .of_eq rfl

/-- An entered mode is an effect, MODE_CHANGED plumbing (R129). -/
theorem course_changeMode {v : State} {m : Mode} (he : Effect i u { v with mode := m }) : Course i u (changeMode v m) :=
  he.andThen (coreKept_changeMode v m)

theorem course_requestRun : Course i u (requestRun u).state := by
  unfold requestRun
  split
  · next hm =>
    split
    · exact .of_eq rfl
    · next hf => exact course_changeMode (.runEntered hm hf)
  · next hm => exact course_changeMode (.calibrateLeft hm)
  all_goals exact .of_eq rfl

theorem course_requestConfig : Course i u (requestConfig u).state := by
  unfold requestConfig
  split
  case h_2 hm | h_3 hm =>
    split
    · exact course_changeMode (v := stopped u) (.configEntered (by simp [WheelMode, hm]))
    · exact .of_eq rfl
  all_goals exact .of_eq rfl

theorem course_requestCalibrate : Course i u (requestCalibrate u).state := by
  unfold requestCalibrate
  split
  case h_2 hm =>
    split
    · exact course_changeMode (.calibrateEntered hm)
    · exact .of_eq rfl
  all_goals exact .of_eq rfl

theorem course_requestMode : Course i u (requestMode data u).state := by
  unfold requestMode
  (repeat' split) <;> [exact course_requestConfig; exact course_requestRun; exact course_requestCalibrate; exact .of_eq rfl]

/-- NOTICE marks a level cause, or takes an edge cause, which is plumbing (R149). -/
theorem course_takeNotice (hi : i = .notice h data) : Course i u (takeNotice h.port u).state := by
  unfold takeNotice
  split
  · next c hc =>
    have hp : isPending u h.port c = true := by
      have := List.find?_some hc
      simp_all
    cases c with
    | level l => exact .of_effect (.noticed h data l hi hp)
    | edge e => exact .of_core (coreKept_modifyPort (quietPort_edges _ _))
  · exact .of_eq rfl

theorem course_takeNoticeMask : Course i u (takeNoticeMask p data u).state := by
  unfold takeNoticeMask
  split
  · exact .of_core (coreKept_modifyPort ⟨rfl, rfl, rfl, .inr rfl, .inr rfl⟩)
  · exact .of_eq rfl

theorem course_clearBank : Course i u (clearBank data u).state := by
  unfold clearBank
  split
  · next k _ => exact Course.before (coreKept_setErrorBank u k _) (.of_effect (.latchCleared k))
  · exact .of_eq rfl

theorem admitted_storeProgram_iff :
    admitted u p .storeProgram = true ↔ (portOf u p).role = .ride ∧ (u.mode = .config ∨ u.mode = .calibrate) := by
  simp [admitted, roleAdmits, modeAdmits]

theorem course_startProgram (ha : admitted u p .storeProgram = true) : Course i u (startProgram p data u).state := by
  unfold startProgram
  split
  · exact .of_eq rfl
  split
  · exact .of_eq rfl
  · next hidle =>
    split
    · exact .of_eq rfl
    · next c hc => exact .of_effect (.programStarted p _ c (admitted_storeProgram_iff.mp ha).2 hidle hc)

/-- An operation cut short ends, PROGRAM_ABORTED and STORE_DONE apart (R156). -/
theorem coreKept_abortOperation {moves : Port → Prop} (s : State) (o : Operation) :
    CoreKept moves (operationOver s o false .aborted) (abortOperation s o) :=
  (coreKept_withStore (fun x => { x with operation := none, status := .aborted }) (coreKept_logError ..)).trans
    (coreKept_raiseAt ..)

theorem course_abortProgram : Course i u (abortProgram u).state := by
  unfold abortProgram
  split
  · next o ho => exact (Effect.operationEnded o false .aborted ho (by decide)).andThen (coreKept_abortOperation u o)
  · exact .of_eq rfl

theorem admitted_overlay_iff :
    admitted u p .overlay = true ↔ (portOf u p).role = .ride ∧ u.mode = .calibrate := by
  simp [admitted, roleAdmits, modeAdmits]

theorem course_takeBind (bank code : BitVec 4) (ha : admitted u p .overlay = true) :
    Course i u (takeBind bank code u).state := by
  unfold takeBind
  split
  · exact .of_eq rfl
  split
  · exact .of_effect (.bankUnbound _)
  split
  · exact .of_eq rfl
  split
  · exact .of_eq rfl
  · next hother => exact .of_effect (.bankBound _ _ (admitted_overlay_iff.mp ha).2 hother)

theorem course_takeCommit : Course i u (takeCommit data u).state := by
  unfold takeCommit
  split
  · exact .of_eq rfl
  · split
    · exact .of_eq rfl
    · exact .of_effect (.bankCommitted _ _)

end Owners

section Events

variable {i : Instr} {s : State}

theorem course_takeFramingError (p : Port) (bits : List Bool) : Course i s (takeFramingError p bits s) := by
  unfold takeFramingError
  split
  · exact .of_core ((coreKept_logError ..).trans (coreKept_respond ..))
  · exact .of_core (coreKept_dropTransaction ..)

theorem course_expireLink (p : Port) : Course i s (expireLink p s) := by
  unfold expireLink
  split
  · exact (Effect.silenced p).andThen ((coreKept_raiseAtOthers ..).trans (coreKept_logError ..))
  · exact .of_eq rfl

theorem course_expireDemand (w : Wheel) (src : Source) : Course i s (expireDemand w src s) := by
  unfold expireDemand
  split
  · split
    · exact (Effect.demandExpired w src).andThen (coreKept_raiseAt ..)
    · exact .of_eq rfl
  · exact .of_eq rfl

theorem course_expireStandstill : Course i s (expireStandstill s) := by
  unfold expireStandstill
  split
  · refine .of_core ?_
    constructor
    case ports => exact fun _ => QuietPort.refl _
    all_goals rfl
  · exact .of_eq rfl

theorem course_tickMillisecond : Course i s (tickMillisecond s) := by
  refine .of_core ?_
  constructor
  case ports => exact fun _ => QuietPort.refl _
  all_goals rfl

theorem coreKept_lines (s : State) (safe cal : Bool) {moves : Port → Prop} :
    CoreKept moves s { s with safeLow := safe, calEn := cal } := by
  constructor
  case ports => exact fun _ => QuietPort.refl _
  all_goals rfl

theorem course_beginPeriod : Course i s (beginPeriod s) := by
  by_cases hrun : s.timer.running = true
  · rw [beginPeriod, if_pos hrun]
    exact .of_effect (.periodBegun hrun)
  · exact .of_eq (if_neg hrun)

theorem course_makeAdvance : Course i s (makeAdvance s) := by
  unfold makeAdvance
  split
  · exact .of_eq rfl
  · exact .of_effect .advanced

theorem course_fallCalEn : Course i s (fallCalEn s) := by
  refine Course.before (coreKept_lines s s.safeLow false) (course_unlessInReset fun _ => ?_)
  unfold leaveCalibrate
  split
  · next hm => exact course_changeMode (.calibrateLeft hm)
  · exact .of_eq rfl

theorem course_assertSafe : Course i s (assertSafe s) := by
  refine Course.before (coreKept_lines s true s.calEn) (course_unlessInReset fun hr => ?_)
  unfold safeStop
  split
  · exact .of_eq rfl
  · exact .of_effect (.shutDown hr)

/-- A cycle expiry leaves the wheel its record and the other wheels theirs, what is logged apart (R57). -/
theorem coreKept_runExpiry {moves : Port → Prop} (w : Wheel) (c measured phase : Nat) :
    CoreKept moves (withWheel s w (expiryRecord s w c measured phase)) (runExpiry w c measured phase s) := by
  have hsampled : CoreKept moves s
      (logSample { s with timer := { s.timer with counter := phase } } w c (wheelOf s w).stroke) :=
    (coreKept_withCounter s phase).trans (coreKept_logSample ..)
  have hlogged := hsampled.trans (coreKept_logRegulation _ w (strokedRecord s w c measured phase))
  rw [withWheel, expiryRecord, runExpiry]
  refine coreKept_settleMarks s ?_
  change CoreKept moves _ (if isRunning (wheelOf s w).state = true then
    checkedCycle _ w (strokedRecord s w c measured phase) else uncheckedCycle _ w (strokedRecord s w c measured phase))
  split
  · rw [checkedCycle]
    split
    · exact (coreKept_modifyWheel w _ hlogged).trans (coreKept_logError ..)
    · rw [settleWheel_congr hsampled]
      exact coreKept_modifyWheel w _ hlogged
  · rw [uncheckedCycle, settleWheel_congr hsampled]
    exact coreKept_modifyWheel w _ hsampled

theorem course_takeExpiry (w : Wheel) {c measured : Nat} (hc : c ≤ 4095) (hm : measured ≤ 2600) :
    Course i s (takeExpiry w c measured s) := by
  obtain ⟨phase, hcomes, hrun⟩ | ⟨-, hnone⟩ := takeExpiry_cases w c measured s
  · rw [hrun]
    exact (Effect.expired w c measured phase hc hm hcomes).andThen (coreKept_runExpiry ..)
  · exact .of_eq hnone

theorem course_takeShort (w : Wheel) : Course i s (takeShort w s) := by
  unfold takeShort
  split
  · next hd => exact (Effect.shorted w hd).andThen (coreKept_settleMarks s (coreKept_logError ..))
  · exact .of_eq rfl

theorem course_completeInFlight (good : Bool) : Course i s (completeInFlight good s) := by
  unfold completeInFlight
  split
  · next o ho =>
    unfold completeOperation
    split
    · exact (Effect.operationEnded o true .ok ho (by decide)).andThen (coreKept_raiseAt ..)
    · exact (Effect.operationEnded o false .failed ho (by decide)).andThen
        ((coreKept_withStore (fun x => { x with operation := none, status := .failed }) (coreKept_logError ..)).trans
          (coreKept_raiseAt ..))
  · exact .of_eq rfl

theorem course_loadParameters : Course i s (loadParameters s) := by
  unfold loadParameters
  split
  · next hdue =>
    split
    · next ps hps =>
      cases himage : s.store.paramImage with
      | invalid => simp [himage, goodParamImage] at hps
      | stored qs crc =>
        obtain rfl : qs = ps := by
          simp only [himage, goodParamImage, Option.ite_none_right_eq_some, Option.some.injEq] at hps
          exact hps.2
        exact .of_effect (.paramsLoaded qs crc hdue himage)
    · exact (Effect.loadPassed _ (by simp [hdue])).andThen (coreKept_logError ..)
  · exact .of_eq rfl

theorem course_loadSlot (k : Fin 8) : Course i s (loadSlot k s) := by
  unfold loadSlot
  split
  · next hdue =>
    split
    · next m hm =>
      cases himage : s.store.slotImages[k] with
      | invalid => simp [himage, goodSlotImage] at hm
      | stored n crc =>
        obtain rfl : n = m := by
          simp only [himage, goodSlotImage, Option.ite_none_right_eq_some, Option.some.injEq] at hm
          exact hm.2
        exact .of_effect (.slotLoaded k n crc hdue himage)
    · exact (Effect.loadPassed _ (by simp [hdue])).andThen (coreKept_logError ..)
  · exact .of_eq rfl

theorem course_completeLoad : Course i s (completeLoad s) := by
  unfold completeLoad
  split
  · next hdue =>
    have hload : s.store.load ≠ none := by simp [hdue]
    dsimp only
    split
    · next hm => exact (Effect.loadEnded hload hm).andThen (coreKept_raiseEverywhere ..)
    · next hm => exact .of_effect (.loadEndedLate hload hm)
  · exact .of_eq rfl

/-- The responses formed and the conflicts logged are plumbing (R130, R135). -/
theorem coreKept_begunState {moves : Port → Prop} (a b c : BitVec 2) (s : State) :
    CoreKept moves (rolesGiven a b c s) (begunState a b c s) := by
  have hroles : CoreKept moves (fixRoles (assignedRoles a b c) { s with inReset := false })
      (formResponses (assignRoles a b c { s with inReset := false })) :=
    ((coreKept_logConflict ..).trans (coreKept_logConflict ..)).trans
      (coreKept_modifyPorts fun _ => ⟨rfl, rfl, rfl, .inr rfl, .inr rfl⟩)
  exact coreKept_withStore (fun x => { x with status := .busy, load := some .parameterBlock }) hroles

theorem course_finishReset (a b c : BitVec 2) (hr : s.inReset = true) (hi : i = .resetEnd a b c) :
    Course i s (finishReset a b c s) := by
  unfold finishReset
  dsimp only
  split
  · exact .of_effect (.resetEndedLow a b c hi hr)
  · exact .of_effect (.resetEnded a b c hi hr)

end Events

section Inversion

variable {i : Instr} {s t : State}

/-- Every command does one of the effects, with plumbing before and after it. -/
theorem course_of_exec (he : exec i s = .next t) : Course i s t := by
  cases i <;> cases he
  case nop | unassignedCommand => exact course_takeFrame rfl fun _ _ _ => .of_eq rfl
  case setLevel => exact course_takeFrame rfl fun _ => course_setLevel
  case setFloor => exact course_takeFrame rfl fun _ => course_setFloor
  case release => exact course_takeFrame rfl fun _ => course_release
  case previewLevel => exact course_takeFrame rfl fun _ _ _ => course_stageLevel
  case previewSpan => exact course_takeFrame rfl fun _ _ _ => course_stageSpan
  case previewAt => exact course_takeFrame rfl fun _ _ => course_placePreview
  case previewCancel => exact course_takeFrame rfl fun _ _ _ => course_cancelPreview
  case select h data => exact course_takeFrame rfl fun _ _ _ => course_selectIndex ⟨h, _, rfl, rfl, .inl rfl⟩
  case put | mapPut => exact course_takeFrame rfl fun _ _ => course_putAtPointer
  case get => exact course_takeFrame rfl fun _ _ _ => course_getAtPointer
  case modeConfig | modeRun | modeCalibrate | modeInvalidRequest =>
    exact course_takeFrame rfl fun _ _ _ => course_requestMode
  case notice => exact course_takeFrame rfl fun _ _ _ => course_takeNotice rfl
  case noticeMask => exact course_takeFrame rfl fun _ _ _ => course_takeNoticeMask
  case clearBank => exact course_takeFrame rfl fun _ _ _ => course_clearBank
  case storeProgram => exact course_takeFrame rfl fun _ _ => course_startProgram
  case storeAbort => exact course_takeFrame rfl fun _ _ _ => course_abortProgram
  case overlayBind | overlayUnbind => exact course_takeFrame rfl fun _ _ => course_takeBind _ _
  case overlayCommit => exact course_takeFrame rfl fun _ _ _ => course_takeCommit
  case framingError => exact course_takeFramingError _ _
  case safeAsserted => exact course_assertSafe
  case safeReleased => exact .of_core (coreKept_lines s false s.calEn)
  case calEnFall => exact course_fallCalEn
  case calEnRise => exact .of_core (coreKept_lines s s.safeLow true)
  case travelPulse => exact course_unlessInReset fun _ => .of_effect .pulsed
  case advance => exact course_unlessInReset fun _ => course_makeAdvance
  case standstillExpiry => exact course_unlessInReset fun _ => course_expireStandstill
  case demandRecordExpiry => exact course_unlessInReset fun _ => course_expireDemand _ _
  case linkTimerExpiry => exact course_unlessInReset fun _ => course_expireLink _
  case periodStart => exact course_unlessInReset fun _ => course_beginPeriod
  case cycleExpiry w code m =>
    exact course_unlessInReset fun _ => course_takeExpiry w (Nat.le_of_lt_succ code.isLt) (Nat.le_of_lt_succ m.isLt)
  case shortDetected => exact course_unlessInReset fun _ => course_takeShort _
  case storeCompletion => exact course_unlessInReset fun _ => course_completeInFlight _
  case parameterBlockLoad => exact course_unlessInReset fun _ => course_loadParameters
  case slotLoad => exact course_unlessInReset fun _ => course_loadSlot _
  case loadCompletion => exact course_unlessInReset fun _ => course_completeLoad
  case powerOnReset => exact .of_effect (.reset _ (.inl rfl))
  case resetLineReset => exact .of_effect (.reset _ (.inr rfl))
  case resetEnd a b c =>
    split
    · next hr => exact course_finishReset a b c hr rfl
    · exact .of_eq rfl
  case chipSelectFall => exact .of_core (coreKept_beginTransaction ..)
  case millisecondBoundary => exact course_unlessInReset fun _ => course_tickMillisecond

/-- The law's induction over steps: a law that reads no waiting command, that plumbing keeps and that every effect keeps. -/
theorem step_keeps {P : State → Prop} (hq : ∀ {s} q, P s → P { s with pending := q })
    (hc : ∀ {moves s t}, CoreKept moves s t → P s → P t) (he : ∀ {i s t}, Effect i s t → P s → P t) (hs : P s)
    (hstep : step s = .next t) : P t := by
  unfold step at hstep
  split at hstep
  · cases hstep
    exact hs
  · next q _ => exact (course_of_exec hstep).keeps hc he (hq q hs)

end Inversion

end Sys2Proof.Proofs
end

section
/-! PROOF. A step keeps the map memories lawful (O52): the map RAM and the store each have a law of their own, over the
effects that write them. -/

namespace Sys2Proof.Proofs

open Sys2Proof.Machine

section Store

variable (s : State) (o : Operation)

/-- Writing a slot's image leaves every other slot image (R155). -/
theorem slotImages_setImage_slot (k : Fin 8) (m : Memory) (good : Bool) (j : Fin 8) :
    (setImage s (.slot k m) good).store.slotImages[j] =
      if j = k then (if good then .stored m (crc16 (memoryWords m)) else .invalid) else s.store.slotImages[j] := by
  simp only [setImage, Fin.getElem_fin, Vector.getElem_set]
  by_cases h : j = k
  · simp [h]
  · simp [h, Fin.val_ne_of_ne (Ne.symm h)]

/-- At the entry to SHUTDOWN an operation in flight is over and aborted, and the store is else as it was (R126, R156). -/
theorem store_enterShutdown_of_operation (ho : s.store.operation = some o) :
    (enterShutdown s).store = (operationOver s o false .aborted).store := by
  have hflies : (stopLinks (stopTimer (stopped s))).store.operation = some o := ho
  change (abortInFlight (stopLinks (stopTimer (stopped s)))).store = _
  simp only [abortInFlight, hflies]
  rw [(coreKept_abortOperation (moves := fun _ => False) (stopLinks (stopTimer (stopped s))) o).store]
  cases hc : o.capture <;> simp only [operationOver, setImage, hc] <;> rfl

theorem store_enterShutdown_of_idle (ho : s.store.operation = none) : (enterShutdown s).store = s.store := by
  have hidle : (stopLinks (stopTimer (stopped s))).store.operation = none := ho
  change (abortInFlight (stopLinks (stopTimer (stopped s)))).store = _
  simp only [abortInFlight, hidle]
  rfl

/-- Besides the store, the entry to SHUTDOWN leaves the parts as the blocks were stopped (R126). -/
theorem map_enterShutdown : (enterShutdown s).map = (unbindBanks s).map := by
  change (abortInFlight (stopLinks (stopTimer (stopped s)))).map = _
  rw [abortInFlight_map]
  rfl

end Store

section Laws

/-- The law of the map RAM: slots and banks (R75, R93). -/
def RamLawful (m : MapRam) : Prop :=
  (∀ k : Fin 8, MemoryLawful m.slots[k].entries) ∧ ∀ b : Fin 2, MemoryLawful m.banks[b].entries

/-- The law of the map memories in the store: slot images and a captured slot (R153, R155). -/
def StoredMapsLawful (x : MapStore) : Prop :=
  (∀ (k : Fin 8) m crc, x.slotImages[k] = .stored m crc → MemoryLawful m) ∧
    ∀ o k m, x.operation = some o → o.capture = .slot k m → MemoryLawful m

theorem mapsLawful_iff (s : State) : MapsLawful s ↔ RamLawful s.map ∧ StoredMapsLawful s.store := and_assoc.symm

variable {s : State}

theorem memoryLawful_write {m : Memory} {offset v : Nat} (hm : MemoryLawful m) (ho : offset < Config.slotEntries)
    (hv : v ≤ Config.entryMax) : MemoryLawful (Memory.write m offset v) :=
  ⟨Memory.wf_write _ _ hm.1, Memory.inRange_write ho hv hm.2⟩

theorem ramLawful_setSlot {k : Fin 8} {x : MapSlot} (h : RamLawful s.map) (hx : MemoryLawful x.entries) :
    RamLawful (setSlot s k x).map := by
  refine ⟨fun j => ?_, h.2⟩
  change MemoryLawful (slotOf (setSlot s k x) j).entries
  rw [slotOf_setSlot]
  split
  · exact hx
  · exact h.1 j

theorem ramLawful_setBank {b : Fin 2} {x : OverlayBank} (h : RamLawful s.map) (hx : MemoryLawful x.entries) :
    RamLawful (setBank s b x).map := by
  refine ⟨h.1, fun c => ?_⟩
  change MemoryLawful (bankOf (setBank s b x) c).entries
  rw [bankOf_setBank]
  split
  · exact hx
  · exact h.2 c

theorem ramLawful_unbindBanks (h : RamLawful s.map) : RamLawful (unbindBanks s).map := by
  refine ⟨h.1, fun b => ?_⟩
  change MemoryLawful (bankOf (unbindBanks s) b).entries
  rw [bankOf_unbindBanks]
  exact h.2 b

theorem ramLawful_reset : RamLawful State.reset.map := by
  have hempty : MemoryLawful [] := ⟨rfl, rfl⟩
  exact ⟨fun k => by simpa [State.reset] using hempty, fun b => by simpa [State.reset] using hempty⟩

/-- An image that an operation writes holds what the operation captured, so it is lawful (R155). -/
theorem storedMapsLawful_setImage {o : Operation} (good : Bool) (h : StoredMapsLawful s.store)
    (ho : s.store.operation = some o) (k : Fin 8) (m : Memory) (crc : BitVec 16)
    (hk : (setImage s o.capture good).store.slotImages[k] = .stored m crc) : MemoryLawful m := by
  cases hc : o.capture with
  | params ps =>
    rw [hc] at hk
    exact h.1 k m crc hk
  | slot j entries =>
    rw [hc, slotImages_setImage_slot] at hk
    split at hk
    · split at hk
      · cases hk
        exact h.2 o j m ho hc
      · cases hk
    · exact h.1 k m crc hk

theorem storedMapsLawful_operationOver {o : Operation} (good : Bool) (status : StoreStatus) (h : StoredMapsLawful s.store)
    (ho : s.store.operation = some o) : StoredMapsLawful (operationOver s o good status).store :=
  ⟨storedMapsLawful_setImage good h ho, nofun⟩

theorem storedMapsLawful_enterShutdown (h : StoredMapsLawful s.store) : StoredMapsLawful (enterShutdown s).store := by
  cases ho : s.store.operation with
  | none => rwa [store_enterShutdown_of_idle s ho]
  | some o =>
    rw [store_enterShutdown_of_operation s o ho]
    exact storedMapsLawful_operationOver false .aborted h ho

theorem storedMapsLawful_startReset (banks : ErrorBanks) (h : StoredMapsLawful s.store) :
    StoredMapsLawful (startReset banks s).store := by
  refine ⟨fun k m crc hk => ?_, nofun⟩
  change (imagesAfterReset s).slotImages[k] = _ at hk
  unfold imagesAfterReset at hk
  split at hk
  · next o ho => exact storedMapsLawful_setImage false h ho k m crc hk
  · exact h.1 k m crc hk

/-- An operation that starts captures a slot's entries as they stand (R155). -/
theorem storedMapsLawful_captured {n : Nat} {c : Capture} (p : Port) (status : StoreStatus) (hram : RamLawful s.map)
    (h : StoredMapsLawful s.store) (hc : captureOf s n = some c) :
    StoredMapsLawful { s.store with operation := some ⟨p, c⟩, status := status } := by
  refine ⟨h.1, fun o k m ho hk => ?_⟩
  cases ho
  unfold captureOf at hc
  split at hc
  · cases hc
    cases hk
  split at hc
  · cases hc
    cases hk
    exact hram.1 _
  · cases hc

end Laws

/-- Every effect keeps the map memories lawful. -/
theorem mapsLawful_of_effect {i : Instr} {s t : State} (he : Effect i s t) (h : MapsLawful s) : MapsLawful t := by
  rw [mapsLawful_iff] at h ⊢
  obtain ⟨hram, hstore⟩ := h
  have hbegun := fun a b c => (coreKept_begunState (moves := fun _ => False) a b c s).map
  have hbegunStore := fun a b c => (coreKept_begunState (moves := fun _ => False) a b c s).store
  cases he
  case slotWritten k offset v _ ho hv => exact ⟨ramLawful_setSlot hram (memoryLawful_write (hram.1 k) ho hv), hstore⟩
  case bankWritten b offset v ho hv => exact ⟨ramLawful_setBank hram (memoryLawful_write (hram.2 b) ho hv), hstore⟩
  case bankBound b k _ _ => exact ⟨ramLawful_setBank hram (hram.1 k), hstore⟩
  case bankUnbound b => exact ⟨ramLawful_setBank hram (hram.2 b), hstore⟩
  case bankCommitted b k =>
    have hslot : RamLawful (setSlot s k ⟨(bankOf s b).entries, true⟩).map := ramLawful_setSlot hram (hram.2 b)
    exact ⟨ramLawful_setBank hslot (hslot.2 b), hstore⟩
  case calibrateLeft => exact ⟨ramLawful_unbindBanks hram, hstore⟩
  case configEntered => exact ⟨ramLawful_unbindBanks hram, hstore⟩
  case shutDown =>
    rw [map_enterShutdown]
    exact ⟨ramLawful_unbindBanks hram, storedMapsLawful_enterShutdown hstore⟩
  case programStarted p n c _ _ hc => exact ⟨hram, storedMapsLawful_captured p .busy hram hstore hc⟩
  case operationEnded o good status ho _ =>
    refine ⟨?_, storedMapsLawful_operationOver good status hstore ho⟩
    change RamLawful (setImage s o.capture good).map
    rwa [setImage_map]
  case slotLoaded k m crc _ himage =>
    exact ⟨ramLawful_setSlot hram (hstore.1 k m crc himage), hstore⟩
  case reset banks _ => exact ⟨ramLawful_reset, storedMapsLawful_startReset banks hstore⟩
  case resetEnded a b c _ _ => exact ⟨hbegun a b c ▸ hram, hbegunStore a b c ▸ hstore⟩
  case resetEndedLow a b c _ _ =>
    refine ⟨?_, storedMapsLawful_enterShutdown (hbegunStore a b c ▸ hstore)⟩
    rw [map_enterShutdown]
    exact ramLawful_unbindBanks (hbegun a b c ▸ hram)
  case paramStored k v _ _ _ _ => rw [storeParam_map, storeParam_store]; exact ⟨hram, hstore⟩
  case latchCleared => rw [clearLatchOf_map, clearLatchOf_store]; exact ⟨hram, hstore⟩
  all_goals exact ⟨hram, hstore⟩

/-- Settles O52: plumbing leaves the map RAM and the store, and each effect on them keeps their laws. -/
theorem stepKeepsMapsLawful : Obligations.StepKeepsMapsLawful := fun _ _ hs hstep =>
  step_keeps (P := MapsLawful) (fun _ h => h)
    (fun hc h => by
      rw [mapsLawful_iff] at h ⊢
      rwa [hc.map, hc.store])
    mapsLawful_of_effect hs hstep

end Sys2Proof.Proofs
end

section
/-! PROOF. A step keeps roles distinct and every record at its source's port (O53): roles change at the resets alone, and
every other effect on the demand table writes a record of the port that may, or takes records away. -/

namespace Sys2Proof.Proofs

open Sys2Proof.Machine

section Roles

variable {s t : State}

theorem rolesDistinct_of_role_eq (h : ∀ p, (portOf t p).role = (portOf s p).role) (hs : RolesDistinct s) :
    RolesDistinct t := fun p q => by
  rw [h, h]
  exact hs p q

/-- Straps judged A, B, C give no role twice (R135). -/
theorem assignedRoles_distinct (a b c : BitVec 2) (p q : Port)
    (hpq : (assignedRoles a b c).get p = (assignedRoles a b c).get q) (hp : (assignedRoles a b c).get p ≠ .none) :
    p = q := by
  have hb : (assignedRoles a b c).b ≠ .none → (assignedRoles a b c).b ≠ (assignedRoles a b c).a := by
    simp only [assignedRoles]
    split <;> simp_all
  have hc : (assignedRoles a b c).c ≠ .none →
      (assignedRoles a b c).c ≠ (assignedRoles a b c).a ∧ (assignedRoles a b c).c ≠ (assignedRoles a b c).b := by
    intro hn
    have hfree := mt (fun h => if_pos h) hn
    have hown : (assignedRoles a b c).c = roleOfStrap c := if_neg hfree
    exact ⟨fun h => hfree (.inl (hown.symm.trans h)), fun h => hfree (.inr (hown.symm.trans h))⟩
  generalize assignedRoles a b c = roles at *
  cases p <;> cases q <;> simp only [PerPort.get] at hpq hp ⊢ <;> simp_all

/-- The roles after the end of a reset are the assigned ones (R135). -/
theorem role_begunState (a b c : BitVec 2) (s : State) (p : Port) :
    (portOf (begunState a b c s) p).role = (assignedRoles a b c).get p := by
  rw [((coreKept_begunState (moves := fun _ => False) a b c s).ports p).role]
  change (portOf (fixRoles _ _) p).role = _
  rw [fixRoles, portOf_modifyPorts]

theorem role_enterShutdown (s : State) (p : Port) : (portOf (enterShutdown s) p).role = (portOf s p).role := by
  rw [portOf_enterShutdown]

end Roles

section Demands

variable {s t : State}

/-- One record, at the port that holds its source's role (R1, R2). -/
def RecordLawful (s : State) (src : Source) (r : DemandRecord) : Prop :=
  (portOf s r.origin).role = sourceRole src ∧ r.level ≤ 1023 ∧ (r.attr.isSome = true ↔ src = .ride)

/-- The law of the demand table is kept where roles stay and every record was there before. -/
theorem demandsLawful_of_fewer (hr : t.inReset = s.inReset) (hrole : ∀ p, (portOf t p).role = (portOf s p).role)
    (hd : ∀ w src r, demandOf t w src = some r → demandOf s w src = some r) (h : DemandsLawful s) : DemandsLawful t := by
  refine ⟨fun hreset w src => ?_, fun w src r hwr => ?_⟩
  · have hnone := h.1 (hr ▸ hreset) w src
    exact Option.eq_none_iff_forall_ne_some.mpr fun r hwr => by simp [hd w src r hwr] at hnone
  · rw [hrole]
    exact h.2 w src r (hd w src r hwr)

theorem demandsLawful_of_empty (hd : ∀ w src, demandOf t w src = none) : DemandsLawful t :=
  ⟨fun _ => hd, fun w src r hwr => by simp [hd] at hwr⟩

theorem demandOf_removeOrigin {p : Port} {w : Wheel} {src : Source} {r : DemandRecord} :
    demandOf (removeOrigin p s) w src = some r ↔ demandOf s w src = some r ∧ r.origin ≠ p := by
  cases src <;> simp [demandOf, removeOrigin, withoutOrigin, positionOf, Option.filter_eq_some_iff]

/-- Records written for the port that holds their source's role (R4, R5). -/
theorem demandsLawful_setNamedDemands {mask : BitVec 4} {src : Source} {r : Option DemandRecord}
    (hout : s.inReset = false) (hr : ∀ x, r = some x → RecordLawful s src x) (h : DemandsLawful s) :
    DemandsLawful (setNamedDemands s mask src r) := by
  refine ⟨fun hreset => ?_, fun w k x hwx => ?_⟩
  · rw [setNamedDemands_inReset, hout] at hreset
    cases hreset
  · rw [demandOf_setNamedDemands] at hwx
    split at hwx
    · next hk =>
      obtain ⟨-, rfl⟩ := hk
      exact hr x hwx
    · exact h.2 w k x hwx

end Demands

/-- The law of roles and records as one. -/
def TableLawful (s : State) : Prop := RolesDistinct s ∧ DemandsLawful s

theorem tableLawful_of_eq {s t : State} (hr : t.inReset = s.inReset) (hd : t.demands = s.demands)
    (hrole : ∀ p, (portOf t p).role = (portOf s p).role) (h : TableLawful s) : TableLawful t :=
  ⟨rolesDistinct_of_role_eq hrole h.1,
    demandsLawful_of_fewer hr hrole (fun w src r hwr => by rwa [demandOf, hd] at hwr) h.2⟩

theorem tableLawful_enterShutdown {s : State} (h : RolesDistinct s) : TableLawful (enterShutdown s) :=
  ⟨rolesDistinct_of_role_eq (role_enterShutdown s) h, demandsLawful_of_empty fun w src => by
    have hd : (enterShutdown s).demands = (emptyDemands s).demands := by
      simp only [enterShutdown, changeMode_demands, abortInFlight_demands]
      rfl
    rw [demandOf, hd]
    exact demandOf_emptyDemands s w src⟩

/-- Every effect keeps roles distinct and records at their source's port. -/
theorem tableLawful_of_effect {i : Instr} {s t : State} (he : Effect i s t) (h : TableLawful s) : TableLawful t := by
  cases he
  case demandsSet hd src r hout _ hrole hr =>
    refine ⟨h.1, demandsLawful_setNamedDemands hout (fun x hx => ?_) h.2⟩
    obtain ⟨horigin, hlevel, hattr⟩ := hr x hx
    exact ⟨horigin ▸ hrole, hlevel, hattr⟩
  case demandExpired w src =>
    refine ⟨h.1, demandsLawful_of_fewer (s := s) rfl (fun _ => rfl) (fun u k r hur => ?_) h.2⟩
    rw [demandOf_setDemand] at hur
    split at hur
    · cases hur
    · exact hur
  case silenced p =>
    have hrole : ∀ q, (portOf (removeOrigin p (silencePort p s)) q).role = (portOf s q).role := fun q => by
      change (portOf (silencePort p s) q).role = _
      rw [silencePort, portOf_modifyPort]
      split <;> rfl
    exact ⟨rolesDistinct_of_role_eq hrole h.1,
      demandsLawful_of_fewer (s := s) rfl hrole (fun w src r hwr => (demandOf_removeOrigin.mp hwr).1) h.2⟩
  case configEntered =>
    refine ⟨rolesDistinct_of_role_eq (s := s) (fun p => ?_) h.1, demandsLawful_of_empty (demandOf_stopped s)⟩
    change (portOf (stopped s) p).role = _
    rw [portOf_stopped]
  case shutDown => exact tableLawful_enterShutdown h.1
  case reset banks _ =>
    have hrole : ∀ p, (portOf (startReset banks s) p).role = .none := fun p => by simp [portOf, startReset, PortState.reset]
    exact ⟨fun p q _ hp => absurd (hrole p) hp, demandsLawful_of_empty fun w src => by
      cases src <;> simp [demandOf, startReset, State.reset, positionOf]⟩
  case resetEnded a b c _ hr =>
    have hroles : RolesDistinct (begunState a b c s) := fun p q => by
      rw [role_begunState, role_begunState]
      exact assignedRoles_distinct a b c p q
    exact ⟨hroles, demandsLawful_of_empty fun w src => by
      rw [demandOf, (coreKept_begunState (moves := fun _ => False) a b c s).demands]
      exact h.2.1 hr w src⟩
  case resetEndedLow a b c _ hr =>
    exact tableLawful_enterShutdown fun p q => by
      rw [role_begunState, role_begunState]
      exact assignedRoles_distinct a b c p q
  case staged p f _ =>
    refine tableLawful_of_eq (s := s) rfl rfl (fun q => ?_) h
    rw [modifyStaging, portOf_modifyPort]
    split <;> rfl
  case noticed hd _ l _ _ =>
    refine tableLawful_of_eq (s := s) rfl rfl (fun q => ?_) h
    rw [acknowledge, portOf_modifyPort]
    split <;> rfl
  case expired | shorted =>
    refine tableLawful_of_eq (s := s) rfl rfl (fun q => ?_) h
    rw [withWheel, settleMarks, portOf_modifyPorts]
    rfl
  case paramStored | latchCleared | operationEnded =>
    exact tableLawful_of_eq (by simp [operationOver]) (by simp [operationOver]) (by simp [operationOver, portOf]) h
  all_goals exact tableLawful_of_eq (s := s) rfl rfl (fun _ => rfl) h

/-- Settles O53: plumbing leaves the roles and the table, and each effect on them keeps the law. -/
theorem stepKeepsRolesAndDemandsLawful : Obligations.StepKeepsRolesAndDemandsLawful := fun _ _ hroles hdemands hstep =>
  step_keeps (P := TableLawful) (fun _ h => h)
    (fun hc h => tableLawful_of_eq hc.inReset hc.demands (fun p => (hc.ports p).role) h)
    tableLawful_of_effect ⟨hroles, hdemands⟩ hstep

end Sys2Proof.Proofs
end

section
/-! PROOF. A step keeps parameters and stroke fields in their ranges (O54), and the filter step lies between its old value
and the raw velocity (O44). The parameters are written by PUT, the load and a reset alone; the stroke fields by the sample
of a cycle expiry, which is judged, discarded and filtered in turn. -/

namespace Sys2Proof.Proofs

open Sys2Proof.Machine

section Filter

/-- The part of a whole of 16 that k of it make, truncated toward zero, for a difference that is not negative (R68). -/
theorem tdiv_sixteen_of_nonneg {d : Int} {k : Nat} (hd : 0 ≤ d) (hk : k ≤ 16) :
    0 ≤ (d * k).tdiv 16 ∧ (d * k).tdiv 16 ≤ d ∧ 16 * (d * k).tdiv 16 ≤ k * d ∧ (k = 16 → (d * k).tdiv 16 = d) := by
  have hpos : 0 ≤ d * k := mul_nonneg hd (Int.natCast_nonneg k)
  have hle : d * k ≤ d * 16 := mul_le_mul_of_nonneg_left (by exact_mod_cast hk) hd
  rw [Int.tdiv_eq_ediv_of_nonneg hpos, mul_comm (k : Int) d]
  refine ⟨by omega, by omega, by omega, ?_⟩
  rintro rfl
  push_cast
  omega

/-- The filter step for a raw velocity at or above the old value (R68). -/
theorem filteredVelocity_of_le {v raw : Int} {k : Nat} (h : v ≤ raw) (hk : k ≤ 16) :
    v ≤ filteredVelocity v raw k ∧ filteredVelocity v raw k ≤ raw ∧ 16 * (filteredVelocity v raw k - v) ≤ k * (raw - v) ∧
      (k = 16 → filteredVelocity v raw k = raw) := by
  obtain ⟨hlo, hhi, hpart, hfull⟩ := tdiv_sixteen_of_nonneg (d := raw - v) (by omega) hk
  unfold filteredVelocity
  exact ⟨by omega, by omega, by rwa [add_sub_cancel_left], fun h16 => by have := hfull h16; omega⟩

/-- The filter step reflected: old value and raw velocity with their signs changed (R68). -/
theorem filteredVelocity_neg (v raw : Int) (k : Nat) : filteredVelocity (-v) (-raw) k = -filteredVelocity v raw k := by
  have hdiff : (-raw - -v) * (k : Int) = -((raw - v) * k) := by ring
  rw [filteredVelocity, filteredVelocity, hdiff, Int.neg_tdiv]
  ring

/-- Settles O44: at or above the old value directly, below it by reflection. -/
theorem filterStaysBetween : Obligations.FilterStaysBetween := by
  intro v raw k _ hk
  obtain h | h := le_total v raw
  · obtain ⟨hlo, hhi, hpart, hfull⟩ := filteredVelocity_of_le h hk
    refine ⟨(min_le_left _ _).trans hlo, hhi.trans (le_max_right _ _), hfull, ?_⟩
    rwa [abs_of_nonneg (by omega), abs_of_nonneg (by omega)]
  · obtain ⟨hlo, hhi, hpart, hfull⟩ := filteredVelocity_of_le (neg_le_neg h) hk
    rw [filteredVelocity_neg] at hlo hhi hpart hfull
    refine ⟨(min_le_right _ _).trans (by omega), le_trans (by omega) (le_max_left _ _), fun h16 => by have := hfull h16; omega, ?_⟩
    rw [abs_of_nonpos (by omega), abs_of_nonpos (by omega)]
    convert hpart using 2 <;> ring

end Filter

section Parameters

variable {s : State}

/-- Every parameter is the one at its index (Table 7-8). -/
theorem paramAt_paramIndex (k : Param) : paramAt (paramIndex k) = some k := by
  cases k with
  | phase w | zero w | gain w | mapselA w | mapselB w | trim w => cases w <;> rfl
  | imin x | imax x | slewUp x | slewDown x => cases x <;> rfl
  | linkTimeout p => cases p <;> rfl
  | _ => rfl

theorem paramIndex_inj {j k : Param} (h : paramIndex j = paramIndex k) : j = k :=
  Option.some.inj (by rw [← paramAt_paramIndex, h, paramAt_paramIndex])

theorem getParam_putParam_eq (ps : Params) (k j : Param) (v : Int) :
    getParam (putParam ps k v) j = if j = k then v else getParam ps j := by
  rw [getParam_putParam]
  exact if_congr ⟨paramIndex_inj, congrArg paramIndex⟩ rfl rfl

theorem paramsInRange_putParam {ps : Params} {k : Param} {v : Int} (h : ParamsInRange ps) (hlo : paramLo k ≤ v)
    (hhi : v ≤ paramHi k) : ParamsInRange (putParam ps k v) := fun j => by
  rw [getParam_putParam_eq]
  split
  · next hj => exact hj ▸ ⟨hlo, hhi⟩
  · exact h j

/-- A reset parameter holds its default (Table 7-8). -/
theorem getParam_paramDefaults (k : Param) : getParam paramDefaults k = paramDefault k := by
  cases k with
  | phase w | zero w | gain w | mapselA w | mapselB w | trim w => cases w <;> rfl
  | imin x | imax x | slewUp x | slewDown x => cases x <;> rfl
  | linkTimeout p => cases p <;> rfl
  | _ => rfl

theorem paramsInRange_paramDefaults : ParamsInRange paramDefaults := fun k => by
  rw [getParam_paramDefaults]
  cases k with
  | phase w => cases w <;> decide
  | _ => simp [paramLo, paramHi, paramDefault]

/-- The law of the parameter blocks in the store: the image and a captured block (R153, R155). -/
def StoredParamsLawful (x : MapStore) : Prop :=
  (∀ ps crc, x.paramImage = .stored ps crc → ParamsInRange ps) ∧
    ∀ o ps, x.operation = some o → o.capture = .params ps → ParamsInRange ps

theorem storedParamsLawful_setImage {o : Operation} (good : Bool) (h : StoredParamsLawful s.store)
    (ho : s.store.operation = some o) (ps : Params) (crc : BitVec 16)
    (hps : (setImage s o.capture good).store.paramImage = .stored ps crc) : ParamsInRange ps := by
  cases hc : o.capture with
  | slot k m =>
    rw [hc] at hps
    exact h.1 ps crc hps
  | params qs =>
    rw [hc] at hps
    simp only [setImage] at hps
    split at hps
    · cases hps
      exact h.2 o ps ho hc
    · cases hps

theorem storedParamsLawful_operationOver {o : Operation} (good : Bool) (status : StoreStatus)
    (h : StoredParamsLawful s.store) (ho : s.store.operation = some o) :
    StoredParamsLawful (operationOver s o good status).store :=
  ⟨storedParamsLawful_setImage good h ho, nofun⟩

theorem storedParamsLawful_enterShutdown (h : StoredParamsLawful s.store) : StoredParamsLawful (enterShutdown s).store := by
  cases ho : s.store.operation with
  | none => rwa [store_enterShutdown_of_idle s ho]
  | some o =>
    rw [store_enterShutdown_of_operation s o ho]
    exact storedParamsLawful_operationOver false .aborted h ho

theorem storedParamsLawful_startReset (banks : ErrorBanks) (h : StoredParamsLawful s.store) :
    StoredParamsLawful (startReset banks s).store := by
  refine ⟨fun ps crc hps => ?_, nofun⟩
  change (imagesAfterReset s).paramImage = _ at hps
  unfold imagesAfterReset at hps
  split at hps
  · next o ho => exact storedParamsLawful_setImage false h ho ps crc hps
  · exact h.1 ps crc hps

/-- An operation that starts captures the parameters as they stand (R155). -/
theorem storedParamsLawful_captured {n : Nat} {c : Capture} (p : Port) (status : StoreStatus)
    (hps : ParamsInRange s.params) (h : StoredParamsLawful s.store) (hc : captureOf s n = some c) :
    StoredParamsLawful { s.store with operation := some ⟨p, c⟩, status := status } := by
  refine ⟨h.1, fun o ps ho hp => ?_⟩
  cases ho
  unfold captureOf at hc
  split at hc
  · cases hc
    cases hp
    exact hps
  split at hc
  · cases hc
    cases hp
  · cases hc

theorem params_enterShutdown (s : State) : (enterShutdown s).params = s.params := by
  simp only [enterShutdown, changeMode_params, abortInFlight_params]
  rfl

/-- Every effect keeps the parameters and the parameter blocks in their ranges. -/
theorem paramsLawful_of_effect {i : Instr} {s t : State} (he : Effect i s t) (h : ParamsLawful s) : ParamsLawful t := by
  obtain ⟨hps, hstore⟩ : ParamsInRange s.params ∧ StoredParamsLawful s.store := h
  have hbegun := fun a b c => (coreKept_begunState (moves := fun _ => False) a b c s).params
  have hbegunStore := fun a b c => (coreKept_begunState (moves := fun _ => False) a b c s).store
  change ParamsInRange t.params ∧ StoredParamsLawful t.store
  cases he
  case paramStored k v hlo hhi _ _ =>
    rw [storeParam_store, storeParam, unprimeFor_params]
    exact ⟨paramsInRange_putParam hps hlo hhi, hstore⟩
  case shutDown =>
    rw [params_enterShutdown]
    exact ⟨hps, storedParamsLawful_enterShutdown hstore⟩
  case programStarted p n c _ _ hc => exact ⟨hps, storedParamsLawful_captured p .busy hps hstore hc⟩
  case operationEnded o good status ho _ =>
    refine ⟨?_, storedParamsLawful_operationOver good status hstore ho⟩
    change ParamsInRange (setImage s o.capture good).params
    rwa [setImage_params]
  case paramsLoaded ps crc _ himage => exact ⟨hstore.1 ps crc himage, hstore⟩
  case reset banks _ => exact ⟨paramsInRange_paramDefaults, storedParamsLawful_startReset banks hstore⟩
  case resetEnded a b c _ _ => exact ⟨hbegun a b c ▸ hps, hbegunStore a b c ▸ hstore⟩
  case resetEndedLow a b c _ _ =>
    rw [params_enterShutdown]
    exact ⟨hbegun a b c ▸ hps, storedParamsLawful_enterShutdown (hbegunStore a b c ▸ hstore)⟩
  case latchCleared => rw [clearLatchOf_params, clearLatchOf_store]; exact ⟨hps, hstore⟩
  all_goals exact ⟨hps, hstore⟩

end Parameters

section Strokes

variable {k : Stroke}

theorem strokeLawful_inRangeSample {c : Nat} (hc : c ≤ 4095) (h : StrokeLawful k) : StrokeLawful (inRangeSample k c) := by
  obtain ⟨hvlo, hvhi, -, hgood, -, hpos, hok⟩ := h
  unfold inRangeSample
  split
  · next hs => exact ⟨hvlo, hvhi, by simp, hgood, hc, hpos, fun _ => ⟨by simp, (hok hs).2⟩⟩
  · next hs =>
    split
    · exact ⟨hvlo, hvhi, by simp, by simp, hc, nofun, fun _ => ⟨by simp, rfl⟩⟩
    · next hfew =>
      simp only [Config.recoverySamples] at hfew
      exact ⟨hvlo, hvhi, by simp, by simp only; omega, hc, hpos, fun hs' => by simp [hs] at hs'⟩

theorem strokeLawful_outOfRangeSample (h : StrokeLawful k) : StrokeLawful (outOfRangeSample k) := by
  obtain ⟨hvlo, hvhi, hbad, -, hcode, hpos, hok⟩ := h
  have hmin : min (k.bad + 1) Config.lossSamples ≤ 3 := Nat.min_le_right _ _
  refine ⟨hvlo, hvhi, hmin, by simp [outOfRangeSample], hcode, hpos, fun hs => ⟨?_, rfl⟩⟩
  simp only [outOfRangeSample] at hs ⊢
  split at hs
  · cases hs
  · next hkept =>
    have htwo := (hok hs).1
    simp only [losesSensor, hs, Config.lossSamples, beq_self_eq_true, Bool.true_and, beq_iff_eq] at hkept ⊢
    omega

theorem strokeLawful_judgedSample {c : Nat} (inRange : Bool) (hc : c ≤ 4095) (h : StrokeLawful k) :
    StrokeLawful (judgedSample inRange k c) := by
  unfold judgedSample
  split
  · exact strokeLawful_inRangeSample hc h
  · exact strokeLawful_outOfRangeSample h

theorem strokeLawful_unprimed (h : StrokeLawful k) : StrokeLawful { k with lastPosition := none } := by
  obtain ⟨hvlo, hvhi, hbad, hgood, hcode, -, hok⟩ := h
  exact ⟨hvlo, hvhi, hbad, hgood, hcode, nofun, hok⟩

theorem strokeLawful_discardIrregular (irregular : Bool) (h : StrokeLawful k) :
    StrokeLawful (discardIrregular irregular k) := by
  unfold discardIrregular
  split
  · exact strokeLawful_unprimed h
  · exact h

theorem rawVelocity_mem (last : Option Int) (position : Int) (n : Nat) :
    -4000 ≤ rawVelocity last position n ∧ rawVelocity last position n ≤ 4000 := by
  cases last with
  | none => exact ⟨by simp [rawVelocity], by simp [rawVelocity]⟩
  | some l => exact clampVelocity_mem _

theorem strokeLawful_velocityStage {position : Int} {n kFilt : Nat} (hp : -1044225 ≤ position ∧ position ≤ 1044225)
    (hlo : 1 ≤ kFilt) (hhi : kFilt ≤ 16) (h : StrokeLawful k) : StrokeLawful (velocityStage k position n kFilt) := by
  obtain ⟨hvlo, hvhi, hbad, hgood, hcode, -, hok⟩ := h
  obtain ⟨hrlo, hrhi⟩ := rawVelocity_mem k.lastPosition position n
  obtain ⟨hflo, hfhi, -, -⟩ := filterStaysBetween k.velocity (rawVelocity k.lastPosition position n) kFilt hlo hhi
  exact ⟨(le_min hvlo hrlo).trans hflo, hfhi.trans (max_le hvhi hrhi), hbad, hgood, hcode,
    fun x hx => by cases hx; exact hp, hok⟩

variable {s : State}

/-- A code of 12 bits at a zero and a gain in their ranges gives a position of at most 4,095 x 255 µm (R66). -/
theorem strokePosition_mem (hps : ParamsInRange s.params) (w : Wheel) {c : Nat} (hc : c ≤ 4095) :
    -1044225 ≤ strokePosition s w c ∧ strokePosition s w c ≤ 1044225 := by
  obtain ⟨hzlo, hzhi⟩ := hps (.zero w)
  obtain ⟨hglo, hghi⟩ := hps (.gain w)
  simp only [paramLo, paramHi] at hzlo hzhi hglo hghi
  have hdiff : |(c : Int) - getParam s.params (.zero w)| ≤ 4095 := by rw [abs_le]; omega
  have hgain : |getParam s.params (.gain w)| ≤ 255 := by rw [abs_le]; omega
  rw [← abs_le, strokePosition, abs_mul]
  calc _ ≤ (4095 : Int) * 255 := mul_le_mul hdiff hgain (abs_nonneg _) (by norm_num)
    _ = 1044225 := by norm_num

/-- Steps 2 and 3 of an expiry keep the stroke fields in their ranges (R60-R69, R71). -/
theorem strokeLawful_strokeAfter (hps : ParamsInRange s.params) (w : Wheel) {c : Nat} (hc : c ≤ 4095) (n : Nat)
    (irregular : Bool) (h : StrokeLawful k) :
    StrokeLawful (strokeAfter s w c n irregular (latchedFrom s.params w).kFilt k) := by
  have hkept := strokeLawful_discardIrregular irregular (strokeLawful_judgedSample (codeInRange s c) hc h)
  obtain ⟨hlo, hhi⟩ := hps .kFilt
  simp only [paramLo, paramHi] at hlo hhi
  unfold strokeAfter
  dsimp only
  split
  · refine strokeLawful_velocityStage (strokePosition_mem hps w hc) ?_ ?_ hkept <;>
      simp only [latchedFrom, natParam] <;> omega
  · exact hkept

end Strokes

section Wheels

variable {s : State}

theorem wheelOf_withWheel (s : State) (w u : Wheel) (r : WheelRecord) :
    wheelOf (withWheel s w r) u = if u = w then r else wheelOf s u := wheelOf_modifyWheel ..

/-- Every wheel at the entry to SHUTDOWN (R104, R126). -/
theorem wheelOf_enterShutdown (s : State) (w : Wheel) : wheelOf (enterShutdown s) w = turnedOff (wheelOf s w) := by
  have hw : (enterShutdown s).wheels = (stopped s).wheels := by
    simp only [enterShutdown, changeMode_wheels, abortInFlight_wheels]
    rfl
  rw [wheelOf, hw]
  exact wheelOf_stopped s w

theorem wheelOf_startReset (banks : ErrorBanks) (s : State) (w : Wheel) :
    wheelOf (startReset banks s) w = WheelRecord.reset := PerWheel.get_same ..

theorem wheelOf_begunState (a b c : BitVec 2) (s : State) (w : Wheel) : wheelOf (begunState a b c s) w = wheelOf s w := by
  rw [wheelOf, (coreKept_begunState (moves := fun _ => False) a b c s).wheels]
  rfl

/-- A stored ZERO_w or GAIN_w unprimes its wheel and touches no other (R71). -/
theorem wheelOf_storeParam (k : Param) (v : Int) (s : State) (w : Wheel) :
    wheelOf (storeParam k v s) w =
      if k = .zero w ∨ k = .gain w then
        { wheelOf s w with stroke := { (wheelOf s w).stroke with lastPosition := none } }
      else wheelOf s w := by
  cases k with
  | zero u | gain u =>
    simp only [storeParam, unprimeFor, wheelOf_modifyWheel]
    by_cases hw : w = u
    · simp [hw, wheelOf]
    · simp [hw, Ne.symm hw, wheelOf]
  | _ => simp [storeParam, unprimeFor, wheelOf]

/-- A bank's clearing touches a wheel in its latch alone (R105, R152). -/
theorem wheelOf_clearLatchOf (k : BankId) (s : State) (w : Wheel) :
    wheelOf (clearLatchOf k s) w = if k = .wheel w then { wheelOf s w with latch := false } else wheelOf s w := by
  cases k with
  | wheel u =>
    simp only [clearLatchOf, wheelOf_modifyWheel, BankId.wheel.injEq]
    by_cases hw : w = u
    · simp [hw]
    · simp [hw, Ne.symm hw]
  | link | store => simp [clearLatchOf]

/-- Settling, and all of steps 4 to 7, leave the stroke fields (R101). -/
theorem stroke_settleWheel (s : State) (w : Wheel) (r : WheelRecord) : (settleWheel s w r).stroke = r.stroke := by
  unfold settleWheel
  dsimp only
  split
  · simp only [runSteps, enterRunning]
    split <;> rfl
  · rfl

theorem stroke_expiryRecord (s : State) (w : Wheel) (c measured phase : Nat) :
    (expiryRecord s w c measured phase).stroke =
      strokeAfter s w c (periodLength s) (irregularInterval s w phase) (latchedFrom s.params w).kFilt
        (wheelOf s w).stroke := by
  unfold expiryRecord
  dsimp only
  split
  · split
    · rfl
    · rw [stroke_settleWheel]
      rfl
  · rw [stroke_settleWheel]
    rfl

theorem strokesLawful_of_stroke_eq {s t : State} (hw : ∀ w, (wheelOf t w).stroke = (wheelOf s w).stroke)
    (h : StrokesLawful s) : StrokesLawful t := fun w => by
  rw [hw]
  exact h w

/-- Every effect keeps the stroke fields in their ranges, the parameters being in theirs. -/
theorem strokesLawful_of_effect {i : Instr} {s t : State} (he : Effect i s t) (hps : ParamsInRange s.params)
    (h : StrokesLawful s) : StrokesLawful t := by
  cases he
  case paramStored k v _ _ _ _ =>
    intro w
    rw [wheelOf_storeParam]
    split
    · exact strokeLawful_unprimed (h w)
    · exact h w
  case expired w c measured phase hc _ _ =>
    intro u
    rw [wheelOf_withWheel]
    split
    · rw [stroke_expiryRecord]
      exact strokeLawful_strokeAfter hps w hc _ _ (h w)
    · exact h u
  case shorted w _ =>
    refine strokesLawful_of_stroke_eq (s := s) (fun u => ?_) h
    rw [wheelOf_withWheel]
    split
    · next hu => rw [hu]; rfl
    · rfl
  case configEntered =>
    refine strokesLawful_of_stroke_eq (s := s) (fun u => ?_) h
    change (wheelOf (stopped s) u).stroke = _
    rw [wheelOf_stopped]
  case shutDown => exact strokesLawful_of_stroke_eq (s := s) (fun w => by rw [wheelOf_enterShutdown]; rfl) h
  case latchCleared k =>
    refine strokesLawful_of_stroke_eq (s := s) (fun w => ?_) h
    rw [wheelOf_clearLatchOf]
    split <;> rfl
  case reset banks _ =>
    intro w
    rw [wheelOf_startReset]
    simp [StrokeLawful, WheelRecord.reset]
  case resetEnded a b c _ _ => exact strokesLawful_of_stroke_eq (s := s) (fun w => by rw [wheelOf_begunState]) h
  case resetEndedLow a b c _ _ =>
    exact strokesLawful_of_stroke_eq (s := s) (fun w => by rw [wheelOf_enterShutdown, wheelOf_begunState]; rfl) h
  case operationEnded => exact strokesLawful_of_stroke_eq (s := s) (fun w => by simp [wheelOf, operationOver]) h
  all_goals exact strokesLawful_of_stroke_eq (s := s) (fun _ => rfl) h

end Wheels

/-- Settles O54: plumbing leaves the parameters, the store and the wheels, and each effect on them keeps the ranges. -/
theorem stepKeepsParametersAndStrokesLawful : Obligations.StepKeepsParametersAndStrokesLawful :=
  fun _ _ hparams hstrokes hstep =>
    step_keeps (P := fun s => ParamsLawful s ∧ StrokesLawful s) (fun _ h => h)
      (fun hc h => by
        refine ⟨?_, strokesLawful_of_stroke_eq (fun w => by rw [wheelOf, hc.wheels, wheelOf]) h.2⟩
        rw [ParamsLawful, hc.params, hc.store]
        exact h.1)
      (fun he h => ⟨paramsLawful_of_effect he h.1, strokesLawful_of_effect he h.1.1 h.2⟩) ⟨hparams, hstrokes⟩ hstep

end Sys2Proof.Proofs
end

section
/-! PROOF. Travel and the preview queues: reached and distance (O37), an advance in lawful queues (O36), and that a step
keeps the queues lawful (O55). Positions are read as signed distances from P, where an advance takes one off each. -/

namespace Sys2Proof.Proofs

open Sys2Proof.Machine

section Distance

variable (P X : BitVec 24)

theorem reached_iff : reached P X = true ↔ (P - X).toNat < 2 ^ 23 := by simp [reached]

/-- The signed reading of a difference of positions (R32). -/
theorem distanceTo_eq :
    distanceTo P X = if (X - P).toNat < 2 ^ 23 then ((X - P).toNat : Int) else (X - P).toNat - 2 ^ 24 := by
  rw [distanceTo, BitVec.toInt_eq_toNat_cond]
  have hlt : 2 * (X - P).toNat < 2 ^ 24 ↔ (X - P).toNat < 2 ^ 23 := by omega
  simp only [hlt]
  norm_num

/-- But for the position half the range away, reached is a distance of zero or less (R32; log 21). -/
theorem reached_iff_distanceTo_le (h : X - P ≠ 0x800000) : reached P X = true ↔ distanceTo P X ≤ 0 := by
  have hne : (X - P).toNat ≠ 0x800000 := fun e => h (BitVec.eq_of_toNat_eq e)
  have hlt := (X - P).isLt
  have hneg : (P - X).toNat = (2 ^ 24 - (X - P).toNat) % 2 ^ 24 := by bv_omega
  rw [reached_iff, distanceTo_eq, hneg]
  split <;> omega

/-- But for the position half the range away, an advance takes one off a distance (R31, R32). -/
theorem distanceTo_advance (h : X - P ≠ 0x800000) : distanceTo (P + 1) X = distanceTo P X - 1 := by
  have hne : (X - P).toNat ≠ 0x800000 := fun e => h (BitVec.eq_of_toNat_eq e)
  have hlt := (X - P).isLt
  have hstep : (X - (P + 1)).toNat = ((X - P).toNat + (2 ^ 24 - 1)) % 2 ^ 24 := by bv_omega
  rw [distanceTo_eq, distanceTo_eq, hstep]
  split <;> split <;> omega

/-- A distance above the least one is not half the range away. -/
theorem sub_ne_of_distanceTo {P X : BitVec 24} (h : -0x800000 < distanceTo P X) : X - P ≠ 0x800000 := by
  intro e
  rw [distanceTo, e] at h
  exact absurd h (by decide)

/-- A position some way ahead of another is as much farther, within half the range (R37). -/
theorem distanceTo_add {P X : BitVec 24} {n : Nat} (h : distanceTo P X + n < 2 ^ 23) :
    distanceTo P (X + BitVec.ofNat 24 n) = distanceTo P X + n := by
  have hlt := (X - P).isLt
  have hsum : (X + BitVec.ofNat 24 n - P).toNat = ((X - P).toNat + n) % 2 ^ 24 := by
    have hassoc : X + BitVec.ofNat 24 n - P = (X - P) + BitVec.ofNat 24 n := by
      rw [BitVec.sub_eq_add_neg, BitVec.sub_eq_add_neg, BitVec.add_assoc, BitVec.add_assoc,
        BitVec.add_comm (BitVec.ofNat 24 n)]
    rw [hassoc, BitVec.toNat_add, BitVec.toNat_ofNat, Nat.add_mod_mod]
  rw [distanceTo_eq] at h
  rw [distanceTo_eq, distanceTo_eq, hsum]
  split at h <;> split <;> omega

/-- P itself is at distance zero. -/
theorem distanceTo_self : distanceTo P P = 0 := by
  rw [distanceTo, BitVec.sub_self]
  rfl

/-- Two positions at one distance are one. -/
theorem eq_of_distanceTo_eq_zero {P X : BitVec 24} (h : distanceTo P X = 0) : X = P := by
  have hz : X - P = 0 := BitVec.eq_of_toInt_eq h
  have := congrArg (· + P) hz
  simpa using this

end Distance

/-- Settles O37: both notions are the difference of positions, read modulo 2^24 and as signed. -/
theorem reachedAgreesWithDistance : Obligations.ReachedAgreesWithDistance := fun P X =>
  ⟨reached_iff P X, distanceTo_eq P X, fun h => ⟨reached_iff_distanceTo_le P X h, distanceTo_advance P X h⟩⟩

section Advancing

variable {P : BitVec 24} {arrivals : Nat} {i j : PreviewItem} {q : List PreviewItem}

/-- What an advance means for a held item, in distances from the new P (R31, R46). -/
theorem advance_of_itemLawful (h : ItemLawful P arrivals i) :
    distanceTo (P + 1) i.trigger = distanceTo P i.trigger - 1 ∧
      (reached (P + 1) i.trigger = true ↔ distanceTo (P + 1) i.trigger ≤ 0) ∧
      distanceTo (P + 1) (itemEnd i) = distanceTo (P + 1) i.trigger + i.span ∧
      (reached (P + 1) (itemEnd i) = true ↔ distanceTo (P + 1) i.trigger + i.span ≤ 0) := by
  obtain ⟨-, hspan, -, hfar, hend, -, -⟩ := h
  have hstep := distanceTo_advance P i.trigger (sub_ne_of_distanceTo (by omega))
  have hsum : distanceTo (P + 1) (itemEnd i) = distanceTo (P + 1) i.trigger + i.span := distanceTo_add (by omega)
  refine ⟨hstep, reached_iff_distanceTo_le _ _ (sub_ne_of_distanceTo (by omega)), hsum, ?_⟩
  rw [← hsum]
  exact reached_iff_distanceTo_le _ _ (sub_ne_of_distanceTo (by omega))

/-- After an advance an item is ACTIVE exactly when its trigger is reached (R46). -/
theorem activated_iff (h : ItemLawful P arrivals i) :
    (activated (P + 1) i).active = true ↔ distanceTo (P + 1) i.trigger ≤ 0 := by
  obtain ⟨hstep, hreached, -, -⟩ := advance_of_itemLawful h
  obtain ⟨-, -, -, -, -, hactive, -⟩ := h
  simp only [activated, Bool.or_eq_true, hactive, hreached]
  omega

/-- An advance retires an item exactly when its end is the new P (R46). -/
theorem retires_iff (h : ItemLawful P arrivals i) :
    ((activated (P + 1) i).active && reached (P + 1) (itemEnd (activated (P + 1) i))) = true ↔
      distanceTo (P + 1) i.trigger + i.span = 0 := by
  obtain ⟨hstep, -, -, hend⟩ := advance_of_itemLawful h
  rw [Bool.and_eq_true, activated_iff h]
  change _ ∧ reached (P + 1) (itemEnd i) = true ↔ _
  rw [hend]
  obtain ⟨hspan, -, -, -, hahead, -, -⟩ := h
  omega

theorem itemLawful_activated (h : ItemLawful P arrivals i) (hstays : distanceTo (P + 1) i.trigger + i.span ≠ 0) :
    ItemLawful (P + 1) arrivals (activated (P + 1) i) := by
  have hactive := activated_iff h
  obtain ⟨hstep, -, -, -⟩ := advance_of_itemLawful h
  obtain ⟨hspan, hspan', hlevel, hfar, hahead, -, harrival⟩ := h
  exact ⟨hspan, hspan', hlevel, by change distanceTo (P + 1) i.trigger ≤ _; omega,
    by change 0 < distanceTo (P + 1) i.trigger + i.span; omega, hactive, harrival⟩

/-- An advance keeps the order of two held items. -/
theorem standsBefore_activated (hi : ItemLawful P arrivals i) (hj : ItemLawful P arrivals j) (h : StandsBefore P i j) :
    StandsBefore (P + 1) (activated (P + 1) i) (activated (P + 1) j) := by
  obtain ⟨hstepi, -, -, -⟩ := advance_of_itemLawful hi
  obtain ⟨hstepj, -, -, -⟩ := advance_of_itemLawful hj
  change distanceTo (P + 1) i.trigger < distanceTo (P + 1) j.trigger ∨
    (distanceTo (P + 1) i.trigger = distanceTo (P + 1) j.trigger ∧ i.arrival < j.arrival)
  rw [hstepi, hstepj]
  exact h.imp (by omega) (by omega)

/-- A queue after an advance is lawful at the new P (R36, R46). -/
theorem queueLawful_updatedQueue (h : QueueLawful P arrivals q) : QueueLawful (P + 1) arrivals (updatedQueue (P + 1) q) := by
  obtain ⟨hlen, horder, hitems⟩ := h
  refine ⟨?_, ?_, fun i hi => ?_⟩
  · refine le_trans (List.length_filter_le _ _) ?_
    rwa [List.length_map]
  · refine List.Pairwise.filter _ (List.pairwise_map.mpr ?_)
    exact horder.imp_of_mem fun hi hj => standsBefore_activated (hitems _ hi) (hitems _ hj)
  · obtain ⟨hmem, hstays⟩ := List.mem_filter.mp hi
    obtain ⟨x, hx, rfl⟩ := List.mem_map.mp hmem
    exact itemLawful_activated (hitems x hx) fun h0 => by
      rw [(retires_iff (hitems x hx)).mpr h0] at hstays
      cases hstays

/-- In a lawful queue an advance retires exactly the items whose end is the new P and activates those whose trigger it
is (R46). -/
theorem updatedQueue_eq (h : QueueLawful P arrivals q) :
    updatedQueue (P + 1) q =
      (q.filter fun i => i.trigger + BitVec.ofNat 24 i.span != P + 1).map fun i =>
        { i with active := i.active || i.trigger == P + 1 } := by
  obtain ⟨-, -, hitems⟩ := h
  have hat : ∀ {X : BitVec 24}, distanceTo (P + 1) X = 0 ↔ X = P + 1 := fun {X} =>
    ⟨eq_of_distanceTo_eq_zero, fun e => e ▸ distanceTo_self _⟩
  have hactivated : ∀ i ∈ q, activated (P + 1) i = { i with active := i.active || i.trigger == P + 1 } := by
    intro i hi
    obtain ⟨hstep, hreached, -, -⟩ := advance_of_itemLawful (hitems i hi)
    obtain ⟨-, -, -, -, -, hactive, -⟩ := hitems i hi
    have hsame : (i.active || reached (P + 1) i.trigger) = (i.active || i.trigger == P + 1) := by
      rw [Bool.eq_iff_iff, Bool.or_eq_true, Bool.or_eq_true, hactive, hreached, beq_iff_eq, ← hat]
      omega
    rw [activated, hsame]
  have hretired : ∀ i ∈ q, (!((activated (P + 1) i).active && reached (P + 1) (itemEnd (activated (P + 1) i)))) =
      (i.trigger + BitVec.ofNat 24 i.span != P + 1) := by
    intro i hi
    obtain ⟨-, -, hend, -⟩ := advance_of_itemLawful (hitems i hi)
    rw [Bool.eq_iff_iff, Bool.not_eq_true', ← Bool.not_eq_true, retires_iff (hitems i hi), bne_iff_ne, ← hend]
    exact not_congr hat
  calc updatedQueue (P + 1) q
      = (q.filter fun i => !((activated (P + 1) i).active && reached (P + 1) (itemEnd (activated (P + 1) i)))).map
          (activated (P + 1)) := by rw [updatedQueue, List.filter_map]; rfl
    _ = (q.filter fun i => i.trigger + BitVec.ofNat 24 i.span != P + 1).map (activated (P + 1)) := by
        rw [List.filter_congr hretired]
    _ = _ := List.map_congr_left fun i hi => hactivated i (List.mem_filter.mp hi).1

end Advancing

/-- Settles O36: the advance of a lawful queue, read as retiring and activating by position. -/
theorem advanceActivatesAndRetires : Obligations.AdvanceActivatesAndRetires := by
  intro s hr hadv hlawful
  have hexec : exec .advance s = .next (advancedState s) := by
    change Host.Outcome.next (unlessInReset s makeAdvance) = _
    rw [unlessInReset, hr, makeAdvance, if_neg hadv]
    rfl
  refine ⟨advancedState s, hexec, rfl, fun w => ?_, rfl⟩
  rw [← updatedQueue_eq (hlawful.1 w), queueOf, queueOf]
  exact PerWheel.get_mapWith ..

section Inserting

variable {P : BitVec 24} {arrivals : Nat} {i j : PreviewItem} {q : List PreviewItem}

theorem mem_insertItem : j ∈ insertItem P i q ↔ j = i ∨ j ∈ q := by
  induction q with
  | nil => simp [insertItem]
  | cons x rest ih =>
    unfold insertItem
    split
    · rw [List.mem_cons, ih, List.mem_cons]
      tauto
    · rw [List.mem_cons]

theorem length_insertItem : (insertItem P i q).length = q.length + 1 := by
  induction q with
  | nil => rfl
  | cons x rest ih =>
    unfold insertItem
    split
    · rw [List.length_cons, ih, List.length_cons]
    · rfl

/-- An item that arrives after all others keeps the queue's order (R38). -/
theorem pairwise_insertItem (hlast : ∀ j ∈ q, j.arrival < i.arrival) (h : q.Pairwise (StandsBefore P)) :
    (insertItem P i q).Pairwise (StandsBefore P) := by
  induction q with
  | nil => exact List.pairwise_singleton _ _
  | cons x rest ih =>
    obtain ⟨hx, hrest⟩ := List.pairwise_cons.mp h
    unfold insertItem
    split
    · next hnear =>
      refine List.pairwise_cons.mpr ⟨fun y hy => ?_, ih (fun j hj => hlast j (List.mem_cons_of_mem _ hj)) hrest⟩
      obtain rfl | hy := mem_insertItem.mp hy
      · exact (lt_or_eq_of_le hnear).imp_right fun he => ⟨he, hlast x (List.mem_cons_self ..)⟩
      · exact hx y hy
    · next hfar =>
      have hix : distanceTo P i.trigger < distanceTo P x.trigger := not_le.mp hfar
      refine List.pairwise_cons.mpr ⟨fun y hy => .inl ?_, h⟩
      obtain rfl | hy := List.mem_cons.mp hy
      · exact hix
      · exact hix.trans_le ((hx y hy).elim le_of_lt fun he => le_of_eq he.1)

theorem itemLawful_later (h : ItemLawful P arrivals i) : ItemLawful P (arrivals + 1) i := by
  obtain ⟨hspan, hspan', hlevel, hfar, hend, hactive, harrival⟩ := h
  exact ⟨hspan, hspan', hlevel, hfar, hend, hactive, Nat.lt_succ_of_lt harrival⟩

theorem queueLawful_later (h : QueueLawful P arrivals q) : QueueLawful P (arrivals + 1) q :=
  ⟨h.1, h.2.1, fun i hi => itemLawful_later (h.2.2 i hi)⟩

/-- A lawful item inserted into a queue that is not full (R36, R38). -/
theorem queueLawful_insertItem (h : QueueLawful P arrivals q) (hroom : q.length < 12) (hlast : i.arrival = arrivals)
    (hi : ItemLawful P (arrivals + 1) i) : QueueLawful P (arrivals + 1) (insertItem P i q) := by
  obtain ⟨-, horder, hitems⟩ := h
  refine ⟨by rw [length_insertItem]; exact hroom, pairwise_insertItem (fun j hj => ?_) horder, fun j hj => ?_⟩
  · obtain ⟨-, -, -, -, -, -, harrival⟩ := hitems j hj
    rwa [hlast]
  · obtain rfl | hj := mem_insertItem.mp hj
    · exact hi
    · exact itemLawful_later (hitems j hj)

theorem queueLawful_nil (P : BitVec 24) (arrivals : Nat) : QueueLawful P arrivals [] :=
  ⟨Nat.zero_le _, List.Pairwise.nil, nofun⟩

variable {s : State} {g : Staging}

/-- The item of a staged demand stands at the distance asked, within what the queues use (R43, R44). -/
theorem distanceTo_stagedItem {ahead : Nat} (ha : ahead ≤ 8095) (origin : ItemOrigin) :
    distanceTo s.travel.position (stagedItem s g ahead origin).trigger = ahead := by
  have hz := distanceTo_self s.travel.position
  change distanceTo s.travel.position (s.travel.position + BitVec.ofNat 24 ahead) = ahead
  rw [distanceTo_add (by omega)]
  omega

theorem itemLawful_stagedItem (hg : StagingLawful g) (hspan : g.spanStaged = true) {ahead : Nat} (ha : ahead ≤ 8095)
    (origin : ItemOrigin) :
    ItemLawful s.travel.position (s.preview.arrivals + 1) (stagedItem s g ahead origin) := by
  obtain ⟨hlevel, hspan', hpos⟩ := hg
  have hone := hpos.mp hspan
  have hd := distanceTo_stagedItem (s := s) (g := g) ha origin
  refine ⟨hone, hspan', hlevel, by omega, ?_, ?_, Nat.lt_succ_self _⟩
  · change 0 < distanceTo s.travel.position (stagedItem s g ahead origin).trigger + (g.span : Int)
    omega
  · exact reached_iff_distanceTo_le s.travel.position (stagedItem s g ahead origin).trigger
      (sub_ne_of_distanceTo (by omega))

/-- What a PREVIEW_AT has for a wheel's queue is a lawful item, and the queue has room for it (R36, R43, R44). -/
theorem itemFor_lawful {mask : BitVec 4} {d : BitVec 12} {w : Wheel} (hps : ParamsInRange s.params)
    (hg : StagingLawful g) (hspan : g.spanStaged = true) (hroom : fullNamed mask s = 0)
    (hi : itemFor s mask g d.toNat w = some i) :
    (queueOf s w).length < 12 ∧ i.arrival = s.preview.arrivals ∧
      ItemLawful s.travel.position (s.preview.arrivals + 1) i := by
  have hd : d.toNat ≤ 4095 := Nat.le_of_lt_succ d.isLt
  have hbase : param s .wheelbase ≤ 4000 := by
    have hhi := (hps .wheelbase).2
    simp only [paramHi] at hhi
    rw [param, natParam]
    omega
  unfold itemFor at hi
  split at hi
  · next hn =>
    cases hi
    refine ⟨not_le.mp fun hfull => ?_, rfl, itemLawful_stagedItem hg hspan (by omega) _⟩
    exact (fullNamed_eq_zero_iff mask s).mp hroom ⟨w, hn, hfull⟩
  · split at hi
    · split at hi
      · cases hi
      · next hfull =>
        cases hi
        refine ⟨?_, rfl, itemLawful_stagedItem hg hspan (by omega) _⟩
        rw [isFull_iff] at hfull
        exact not_le.mp hfull
    · cases hi

/-- Every queue after the insertions of a PREVIEW_AT (R43, R44). -/
theorem queueOf_insertStaged (s : State) (mask : BitVec 4) (g : Staging) (n : Nat) (w : Wheel) :
    queueOf (insertStaged s mask g n) w =
      match itemFor s mask g n w with
      | some i => insertItem s.travel.position i (queueOf s w)
      | none => queueOf s w := by
  rw [queueOf, insertStaged, PerWheel.get_mapWith]
  rfl

end Inserting

section Law

variable {s t : State}

theorem previewLawful_of_eq (hp : t.travel.position = s.travel.position) (hq : t.preview = s.preview)
    (hg : ∀ p, (portOf t p).staging = (portOf s p).staging) (h : PreviewLawful s) : PreviewLawful t := by
  refine ⟨fun w => ?_, fun p => hg p ▸ h.2 p⟩
  rw [hp, hq, queueOf, hq]
  exact h.1 w

/-- With every queue empty the law asks for lawful staging records alone. -/
theorem previewLawful_of_empty (hq : ∀ w, queueOf t w = []) (hg : ∀ p, StagingLawful (portOf t p).staging) :
    PreviewLawful t :=
  ⟨fun w => by rw [hq]; exact queueLawful_nil _ _, hg⟩

theorem stagingLawful_clear : StagingLawful Staging.clear := by simp [StagingLawful, Staging.clear]

theorem queueOf_enterShutdown (s : State) (w : Wheel) : queueOf (enterShutdown s) w = [] := by
  have hq : (enterShutdown s).preview = (stopped s).preview := by
    simp only [enterShutdown, changeMode_preview, abortInFlight_preview]
    rfl
  rw [queueOf, hq]
  exact queueOf_stopped s w

theorem previewLawful_enterShutdown (h : ∀ p, StagingLawful (portOf s p).staging) : PreviewLawful (enterShutdown s) :=
  previewLawful_of_empty (queueOf_enterShutdown s) fun p => by
    rw [portOf_enterShutdown]
    exact h p

theorem staging_begunState (a b c : BitVec 2) (s : State) (p : Port) :
    (portOf (begunState a b c s) p).staging = (portOf s p).staging := by
  rw [((coreKept_begunState (moves := fun _ => False) a b c s).ports p).staging]
  change (portOf (fixRoles _ _) p).staging = _
  rw [fixRoles, portOf_modifyPorts]
  rfl

/-- Every effect keeps queues and staging records lawful, the parameters being in their ranges. -/
theorem previewLawful_of_effect {i : Instr} (he : Effect i s t) (hps : ParamsInRange s.params) (h : PreviewLawful s) :
    PreviewLawful t := by
  obtain ⟨hqueues, hstaging⟩ := h
  cases he
  case inserted hd d _ hspan hroom =>
    refine ⟨fun w => ?_, hstaging⟩
    rw [queueOf_insertStaged]
    split
    · next i hi =>
      obtain ⟨hlen, hlast, hlawful⟩ := itemFor_lawful hps (hstaging hd.port) hspan hroom hi
      exact queueLawful_insertItem (hqueues w) hlen hlast hlawful
    · exact queueLawful_later (hqueues w)
  case cancelled mask =>
    refine ⟨fun w => ?_, hstaging⟩
    rw [queueOf_cancelNamed]
    split
    · exact queueLawful_nil _ _
    · exact hqueues w
  case advanced =>
    refine ⟨fun w => ?_, hstaging⟩
    rw [queueOf, advancedState, PerWheel.get_mapWith]
    exact queueLawful_updatedQueue (hqueues w)
  case staged p f hf =>
    refine ⟨hqueues, fun q => ?_⟩
    rw [modifyStaging, portOf_modifyPort]
    split
    · exact hf _ (hstaging q)
    · exact hstaging q
  case silenced p =>
    refine ⟨hqueues, fun q => ?_⟩
    change StagingLawful (portOf (silencePort p s) q).staging
    rw [silencePort, portOf_modifyPort]
    split
    · exact stagingLawful_clear
    · exact hstaging q
  case noticed =>
    refine ⟨hqueues, fun q => ?_⟩
    rw [acknowledge, portOf_modifyPort]
    split <;> exact hstaging q
  case expired | shorted =>
    refine ⟨hqueues, fun q => ?_⟩
    rw [withWheel, settleMarks, portOf_modifyPorts]
    exact hstaging q
  case configEntered =>
    refine previewLawful_of_empty (queueOf_stopped s) fun q => ?_
    change StagingLawful (portOf (stopped s) q).staging
    rw [portOf_stopped]
    exact hstaging q
  case shutDown => exact previewLawful_enterShutdown hstaging
  case reset banks _ =>
    refine previewLawful_of_empty (fun w => PerWheel.get_same ..) fun q => ?_
    rw [portOf, startReset, PerPort.get_mapWith]
    exact stagingLawful_clear
  case resetEnded a b c _ _ =>
    have hcore := coreKept_begunState (moves := fun _ => False) a b c s
    exact previewLawful_of_eq (s := s) hcore.position hcore.preview (staging_begunState a b c s) ⟨hqueues, hstaging⟩
  case resetEndedLow a b c _ _ => exact previewLawful_enterShutdown fun p => staging_begunState a b c s p ▸ hstaging p
  case paramStored | latchCleared | operationEnded =>
    exact previewLawful_of_eq (s := s) (by simp [operationOver]) (by simp [operationOver])
      (by simp [operationOver, portOf]) ⟨hqueues, hstaging⟩
  all_goals exact previewLawful_of_eq (s := s) rfl rfl (fun _ => rfl) ⟨hqueues, hstaging⟩

end Law

/-- Settles O55: plumbing leaves P, the queues and the staging records, and each effect on them keeps the law. -/
theorem stepKeepsQueuesLawful : Obligations.StepKeepsQueuesLawful := fun _ _ hparams hpreview hstep =>
  (step_keeps (P := fun s => ParamsLawful s ∧ PreviewLawful s) (fun _ h => h)
    (fun hc h => by
      refine ⟨?_, previewLawful_of_eq hc.position hc.preview (fun p => (hc.ports p).staging) h.2⟩
      rw [ParamsLawful, hc.params, hc.store]
      exact h.1)
    (fun he h => ⟨paramsLawful_of_effect he h.1, previewLawful_of_effect he h.1.1 h.2⟩) ⟨hparams, hpreview⟩ hstep).2

end Sys2Proof.Proofs
end

section
/-! PROOF. A step keeps what each device mode means for the blocks and the checks of MODE RUN standing (O56), and SHUTDOWN
lasts until a reset (O51). Where an effect has a condition on the mode, that condition and the law of the mode left give
the law of the mode entered. -/

namespace Sys2Proof.Proofs

open Sys2Proof.Machine

section Shutdown

variable (s : State)

theorem mode_enterShutdown : (enterShutdown s).mode = .shutdown := rfl

theorem inReset_enterShutdown : (enterShutdown s).inReset = s.inReset := by
  simp only [enterShutdown, changeMode_inReset, abortInFlight_inReset]
  rfl

theorem timer_enterShutdown : (enterShutdown s).timer = { s.timer with running := false } := by
  simp only [enterShutdown, changeMode_timer, abortInFlight_timer]
  rfl

theorem demandOf_enterShutdown (w : Wheel) (src : Source) : demandOf (enterShutdown s) w src = none := by
  have hd : (enterShutdown s).demands = (emptyDemands s).demands := by
    simp only [enterShutdown, changeMode_demands, abortInFlight_demands]
    rfl
  rw [demandOf, hd]
  exact demandOf_emptyDemands s w src

theorem bankOf_enterShutdown (b : Fin 2) : bankOf (enterShutdown s) b = { bankOf s b with binding := none } := by
  rw [bankOf_congr (map_enterShutdown s), bankOf_unbindBanks]

/-- The operation in flight is over, and the load goes on (R126, R156). -/
theorem load_enterShutdown : (enterShutdown s).store.load = s.store.load ∧ (enterShutdown s).store.operation = none := by
  cases ho : s.store.operation with
  | none => rw [store_enterShutdown_of_idle s ho]; exact ⟨rfl, ho⟩
  | some o =>
    rw [store_enterShutdown_of_operation s o ho]
    refine ⟨?_, rfl⟩
    change (setImage s o.capture false).store.load = _
    cases o.capture <;> rfl

end Shutdown

section Congruence

variable {s t : State}

/-- The law of the modes reads the reset, the mode, the store, the timer's running and period, the states and drivers of the
wheels, the queues, the table, the link timers where they stand, and the bindings. -/
theorem modeLawful_of_eq (hreset : t.inReset = s.inReset) (hmode : t.mode = s.mode) (hstore : t.store = s.store)
    (hrunning : t.timer.running = s.timer.running) (hperiod : t.timer.period = s.timer.period)
    (hwheels : ∀ w, (wheelOf t w).state = (wheelOf s w).state ∧ (wheelOf t w).driver = (wheelOf s w).driver)
    (hqueues : t.preview = s.preview) (hdemands : t.demands = s.demands)
    (hlinks : ∀ p, OperatingMode s.mode ∨ (portOf t p).linkTimer = (portOf s p).linkTimer)
    (hbanks : ∀ b, (bankOf t b).binding = (bankOf s b).binding) (h : ModeLawful s) : ModeLawful t where
  resetLoads := by rw [hreset, hmode, hstore]; exact h.resetLoads
  timerRuns := by rw [hrunning, hmode]; exact h.timerRuns
  timerTook := by rw [hrunning, hperiod]; exact h.timerTook
  wheelsOff hm w := by
    rw [(hwheels w).1, (hwheels w).2]
    exact h.wheelsOff (hmode ▸ hm) w
  queuesEmpty hm w := by
    rw [queueOf, hqueues]
    exact h.queuesEmpty (hmode ▸ hm) w
  demandsEmpty hm w src := by
    rw [demandOf, hdemands]
    exact h.demandsEmpty (hmode ▸ hm) w src
  linksStopped hm p := by
    rw [hmode] at hm
    rw [(hlinks p).resolve_left hm]
    exact h.linksStopped hm p
  unbound hm b := by rw [hbanks]; exact h.unbound (hmode ▸ hm) b
  boundOnce k := by rw [hbanks, hbanks]; exact h.boundOnce k
  loadEnded := by rw [hmode, hstore]; exact h.loadEnded
  programs := by rw [hmode, hstore]; exact h.programs
  busy := by rw [hstore]; exact h.busy

theorem modeLawful_of_core {moves : Port → Prop} (hc : CoreKept moves s t) (h : ModeLawful s) : ModeLawful t :=
  modeLawful_of_eq hc.inReset hc.mode hc.store hc.running hc.period (fun w => by simp only [wheelOf, hc.wheels, and_self])
    hc.preview hc.demands (fun p => (hc.ports p).linkTimer) (fun b => by rw [bankOf_congr hc.map]) h

end Congruence

section Consequences

variable {s : State}

/-- While a load goes on, no operating mode stands (Table 6-1). -/
theorem not_operating_of_loading (h : ModeLawful s) (hload : s.store.load ≠ none) : ¬ OperatingMode s.mode :=
  mt h.loadEnded hload

/-- Outside the operating modes no operation is in flight (R126, R154). -/
theorem operation_none_of_not_operating (h : ModeLawful s) (hm : ¬ OperatingMode s.mode) : s.store.operation = none := by
  by_contra ho
  exact hm (h.programs ho)

/-- No reset lasts in an operating mode or in SHUTDOWN. -/
theorem outside_of_mode (h : ModeLawful s) (hm : s.mode ≠ .loading) : s.inReset = false :=
  Bool.eq_false_iff.mpr fun hr => hm (h.resetLoads hr).1

/-- A wheel that drives shows that wheels may run. -/
theorem wheelMode_of_regulating (h : ModeLawful s) {w : Wheel} (hd : (wheelOf s w).driver.regulating = true) :
    WheelMode s.mode := by
  by_contra hm
  rw [(h.wheelsOff hm w).2] at hd
  cases hd

end Consequences

section Settling

variable {s : State} {w : Wheel} {r : WheelRecord}

theorem isRunning_iff (st : WheelState) : isRunning st = true ↔ st = .active ∨ st = .degraded := by
  simp [isRunning]

/-- A wheel settles into a running state only where wheels may run, with its latch clear (Table 5-2). -/
theorem wheelMode_of_settled {m : Mode} (h : isRunning (settledState m r) = true) : WheelMode m ∧ r.latch = false := by
  unfold settledState at h
  split at h
  · cases h
  next hm =>
    split at h
    · cases h
    · next hl =>
      rw [not_and_or, not_not, not_not] at hm
      exact ⟨hm, Bool.eq_false_iff.mpr hl⟩

/-- Settling either runs the rest of the cycle or turns the driver off (R101). -/
theorem settleWheel_of_running (h : isRunning (settledState s.mode r) = true) :
    settleWheel s w r = runSteps s w (enterRunning (settledState s.mode r) r) := if_pos h

theorem settleWheel_of_stopped (h : ¬ isRunning (settledState s.mode r) = true) :
    settleWheel s w r = { driverOff r with state := settledState s.mode r } := if_neg h

theorem state_settleWheel (s : State) (w : Wheel) (r : WheelRecord) :
    (settleWheel s w r).state = settledState s.mode r := by
  by_cases h : isRunning (settledState s.mode r) = true
  · rw [settleWheel_of_running h]
    simp only [runSteps, enterRunning]
    split <;> rfl
  · rw [settleWheel_of_stopped h]

/-- Where wheels may not run, a cycle expiry leaves its wheel OFF with its driver off (R104). -/
theorem expiryRecord_off (h : ModeLawful s) (hm : ¬ WheelMode s.mode) (c measured phase : Nat) :
    (expiryRecord s w c measured phase).state = .off ∧
      (expiryRecord s w c measured phase).driver.regulating = false := by
  obtain ⟨hoff, -⟩ := h.wheelsOff hm w
  have hstopped : ∀ r, ¬ isRunning (settledState s.mode r) = true := fun r hr => hm (wheelMode_of_settled hr).1
  have hsettled : ∀ r, settledState s.mode r = .off := fun r => if_pos (not_or.mp hm)
  unfold expiryRecord
  rw [hoff]
  dsimp only
  rw [if_neg (by decide), settleWheel_of_stopped (hstopped _)]
  exact ⟨hsettled _, rfl⟩

end Settling

section Effects

variable {s : State}

/-- The entry to SHUTDOWN from any lawful state outside a reset (R126). -/
theorem modeLawful_enterShutdown (hout : s.inReset = false) (h : ModeLawful s) : ModeLawful (enterShutdown s) := by
  obtain ⟨hload, hoperation⟩ := load_enterShutdown s
  constructor
  case resetLoads => rw [inReset_enterShutdown, hout]; exact nofun
  case timerRuns => rw [timer_enterShutdown, mode_enterShutdown]; simp [OperatingMode]
  case timerTook => rw [timer_enterShutdown]; exact nofun
  case wheelsOff => exact fun _ w => by rw [wheelOf_enterShutdown]; exact ⟨rfl, rfl⟩
  case queuesEmpty => exact fun _ => queueOf_enterShutdown s
  case demandsEmpty => exact fun _ => demandOf_enterShutdown s
  case linksStopped => exact fun _ p => by rw [portOf_enterShutdown]
  case unbound => exact fun _ b => by rw [bankOf_enterShutdown]
  case boundOnce => exact fun k => by rw [bankOf_enterShutdown]; exact fun hk => nomatch hk.1
  case loadEnded => rw [mode_enterShutdown]; simp [OperatingMode]
  case programs => exact fun ho => absurd hoperation ho
  case busy =>
    cases ho : s.store.operation with
    | none => rw [store_enterShutdown_of_idle s ho]; exact h.busy
    | some o =>
      have hended := h.loadEnded (h.programs (by simp [ho]))
      rw [hoperation, hload, hended, store_enterShutdown_of_operation s o ho]
      simp [operationOver]

/-- A reset ends with its row (R130). -/
theorem inReset_begunState (a b c : BitVec 2) (s : State) : (begunState a b c s).inReset = false :=
  (coreKept_begunState (moves := fun _ => False) a b c s).inReset

/-- The end of a reset in a lawful state begins the load in LOADING (R154). -/
theorem modeLawful_begunState (a b c : BitVec 2) (hr : s.inReset = true) (h : ModeLawful s) :
    ModeLawful (begunState a b c s) := by
  obtain ⟨hm, -⟩ := h.resetLoads hr
  have hnot : ¬ OperatingMode s.mode := by simp [OperatingMode, hm]
  refine modeLawful_of_core (coreKept_begunState (moves := fun _ => False) a b c s) ?_
  exact
    { h with
      resetLoads := nofun
      linksStopped := fun _ p => by
        change (portOf (fixRoles _ _) p).linkTimer = none
        rw [fixRoles, portOf_modifyPorts]
        exact h.linksStopped hnot p
      loadEnded := fun ho => absurd ho hnot
      busy := by simp [rolesGiven, beginLoad] }

/-- Another wheel record touches a port in its reported marks alone (R146). -/
theorem portOf_withWheel (s : State) (w : Wheel) (r : WheelRecord) (p : Port) :
    portOf (withWheel s w r) p =
      { portOf s p with reported := settledMarks s (modifyWheel s w fun _ => r) (portOf s p).reported } := by
  rw [withWheel, settleMarks, portOf_modifyPorts]
  rfl

/-- A wheel record written back: outside RUN and CALIBRATE it must be OFF. -/
theorem modeLawful_withWheel {w : Wheel} {r : WheelRecord}
    (hoff : ¬ WheelMode s.mode → r.state = .off ∧ r.driver.regulating = false) (h : ModeLawful s) :
    ModeLawful (withWheel s w r) := by
  exact
    { h with
      wheelsOff := fun hn u => by
        rw [wheelOf_withWheel]
        split
        · exact hoff hn
        · exact h.wheelsOff hn u
      linksStopped := fun hn p => by
        rw [portOf_withWheel]
        exact h.linksStopped hn p }

/-- The states that a reset leaves: nothing runs, nothing is bound, nothing loads (R150, R154). -/
theorem modeLawful_startReset (banks : ErrorBanks) : ModeLawful (startReset banks s) where
  resetLoads _ := ⟨rfl, rfl⟩
  timerRuns := by simp [startReset, State.reset, OperatingMode]
  timerTook := nofun
  wheelsOff _ w := by rw [wheelOf_startReset]; exact ⟨rfl, rfl⟩
  queuesEmpty _ := PerWheel.get_same []
  demandsEmpty _ := demandOf_emptyDemands s
  linksStopped _ p := by rw [portOf, startReset, PerPort.get_mapWith]; rfl
  unbound _ b := by simp [startReset, State.reset, bankOf]
  boundOnce k := by simp [startReset, State.reset, bankOf]
  loadEnded _ := rfl
  programs ho := absurd rfl ho
  busy := by simp [startReset, State.reset]

/-- The load passes to its next step (R154). -/
theorem modeLawful_loadNext (hdue : s.store.load ≠ none) (l : LoadStep) (h : ModeLawful s) :
    ModeLawful (loadNext s (some l)) :=
  { h with
    resetLoads := fun hr => absurd (h.resetLoads hr).2 hdue
    loadEnded := fun hm => absurd (h.loadEnded hm) hdue
    busy := iff_of_true (h.busy.mpr (.inr hdue)) (.inr nofun) }

theorem not_wheelMode_of_not_operating {m : Mode} (h : ¬ OperatingMode m) : ¬ WheelMode m := mt .inr h

/-- Every effect keeps what the modes mean. -/
theorem modeLawful_of_effect {i : Instr} {s t : State} (he : Effect i s t) (h : ModeLawful s) : ModeLawful t := by
  cases he
  case nothing | pulsed => exact { h with }
  case demandsSet _ _ _ _ hm _ _ => exact { h with demandsEmpty := fun hn => absurd hm hn }
  case demandExpired w src =>
    refine { h with demandsEmpty := fun hn u k => ?_ }
    rw [demandOf_setDemand, h.demandsEmpty hn, ite_self]
  case silenced p =>
    refine { h with demandsEmpty := fun hn w src => ?_, linksStopped := fun hn q => ?_ }
    · exact Option.eq_none_iff_forall_ne_some.mpr fun r hr => by
        have hold := (demandOf_removeOrigin.mp hr).1
        rw [show demandOf (silencePort p s) w src = demandOf s w src from rfl, h.demandsEmpty hn] at hold
        cases hold
    · change (portOf (silencePort p s) q).linkTimer = none
      rw [silencePort, portOf_modifyPort]
      split
      · rfl
      · exact h.linksStopped hn q
  case staged p f _ =>
    refine { h with linksStopped := fun hn q => ?_ }
    rw [modifyStaging, portOf_modifyPort]
    split <;> exact h.linksStopped hn q
  case noticed =>
    refine { h with linksStopped := fun hn q => ?_ }
    rw [acknowledge, portOf_modifyPort]
    split <;> exact h.linksStopped hn q
  case inserted _ _ hm _ _ => exact { h with queuesEmpty := fun hn => absurd hm hn }
  case cancelled mask =>
    refine { h with queuesEmpty := fun hn w => ?_ }
    rw [queueOf_cancelNamed, h.queuesEmpty hn, ite_self]
  case advanced =>
    refine { h with queuesEmpty := fun hn w => ?_ }
    have hq := h.queuesEmpty hn w
    rw [queueOf] at hq
    rw [queueOf, advancedState, PerWheel.get_mapWith, hq]
    rfl
  case periodBegun => exact { h with timerTook := fun _ => nofun }
  case paramStored k v _ _ _ _ =>
    refine modeLawful_of_eq (s := s) (by simp) (by simp) (by simp) (by simp) (by simp) (fun w => ?_) (by simp) (by simp)
      (fun p => .inr (by simp [portOf])) (fun b => by simp [bankOf]) h
    rw [wheelOf_storeParam]
    split <;> exact ⟨rfl, rfl⟩
  case latchCleared k =>
    refine modeLawful_of_eq (s := s) (by simp) (by simp) (by simp) (by simp) (by simp) (fun w => ?_) (by simp) (by simp)
      (fun p => .inr (by simp [portOf])) (fun b => by simp [bankOf]) h
    rw [wheelOf_clearLatchOf]
    split <;> exact ⟨rfl, rfl⟩
  case slotWritten => exact { h with }
  case bankWritten b offset v _ _ =>
    exact modeLawful_of_eq (s := s) rfl rfl rfl rfl rfl (fun _ => ⟨rfl, rfl⟩) rfl rfl (fun _ => .inr rfl)
      (binding_bankOf_writeBankEntry offset v) h
  case bankBound b k hm hother =>
    refine { h with unbound := fun hn => absurd hm hn, boundOnce := fun j => ?_ }
    have hj := h.boundOnce j
    rw [bindBank, bankOf_setBank, bankOf_setBank]
    match b with
    | 0 => exact fun ⟨h0, h1⟩ => hother (h1.trans h0.symm)
    | 1 => exact fun ⟨h0, h1⟩ => hother (h0.trans h1.symm)
  case bankUnbound b =>
    refine { h with unbound := fun hn c => ?_, boundOnce := fun k hk => h.boundOnce k ?_ }
    · rw [unbindBank, bankOf_setBank]
      split
      · rfl
      · exact h.unbound hn c
    · rw [unbindBank, bankOf_setBank, bankOf_setBank] at hk
      match b with
      | 0 => cases hk.1
      | 1 => cases hk.2
  case bankCommitted b k =>
    refine { h with unbound := fun hn c => ?_, boundOnce := fun j hj => h.boundOnce j ?_ }
    · rw [commitBank, unbindBank, bankOf_setBank]
      split
      · rfl
      · exact h.unbound hn c
    · rw [commitBank, unbindBank, bankOf_setBank, bankOf_setBank] at hj
      match b with
      | 0 => cases hj.1
      | 1 => cases hj.2
  case runEntered hm _ =>
    have hop : OperatingMode s.mode := .inl hm
    exact
      { h with
        resetLoads := fun hr => absurd (h.resetLoads hr).1 (by simp [hm])
        timerRuns := iff_of_true (h.timerRuns.mpr hop) (.inr (.inl rfl))
        wheelsOff := fun hn => absurd (.inl rfl) hn
        queuesEmpty := fun hn => absurd (.inl rfl) hn
        demandsEmpty := fun hn => absurd (.inr (.inl rfl)) hn
        linksStopped := fun hn => absurd (.inr (.inl rfl)) hn
        unbound := fun _ => h.unbound (by simp [hm])
        loadEnded := fun _ => h.loadEnded hop
        programs := fun _ => .inr (.inl rfl) }
  case calibrateEntered hm =>
    have hop : OperatingMode s.mode := .inr (.inl hm)
    exact
      { h with
        resetLoads := fun hr => absurd (h.resetLoads hr).1 (by simp [hm])
        timerRuns := iff_of_true (h.timerRuns.mpr hop) (.inr (.inr rfl))
        wheelsOff := fun hn => absurd (.inr rfl) hn
        queuesEmpty := fun hn => absurd (.inr rfl) hn
        demandsEmpty := fun hn => absurd (.inr (.inr rfl)) hn
        linksStopped := fun hn => absurd (.inr (.inr rfl)) hn
        unbound := fun hn => absurd rfl hn
        loadEnded := fun _ => h.loadEnded hop
        programs := fun _ => .inr (.inr rfl) }
  case calibrateLeft hm =>
    have hop : OperatingMode s.mode := .inr (.inr hm)
    have hunbound : ∀ b, (bankOf (unbindBanks s) b).binding = none := fun b => by rw [bankOf_unbindBanks]
    exact
      { h with
        resetLoads := fun hr => absurd (h.resetLoads hr).1 (by simp [hm])
        timerRuns := iff_of_true (h.timerRuns.mpr hop) (.inr (.inl rfl))
        wheelsOff := fun hn => absurd (.inl rfl) hn
        queuesEmpty := fun hn => absurd (.inl rfl) hn
        demandsEmpty := fun hn => absurd (.inr (.inl rfl)) hn
        linksStopped := fun hn => absurd (.inr (.inl rfl)) hn
        unbound := fun _ => hunbound
        boundOnce := fun k hk => nomatch (hunbound 0).symm.trans hk.1
        loadEnded := fun _ => h.loadEnded hop
        programs := fun _ => .inr (.inl rfl) }
  case configEntered hm =>
    have hop : OperatingMode s.mode := .inr hm
    have hunbound : ∀ b, (bankOf (stopped s) b).binding = none := fun b => by rw [bankOf_stopped]
    exact
      { h with
        resetLoads := fun hr => absurd hop (by rw [(h.resetLoads hr).1]; simp [OperatingMode])
        timerRuns := iff_of_true (h.timerRuns.mpr hop) (.inl rfl)
        wheelsOff := fun _ w => by
          change (wheelOf (stopped s) w).state = _ ∧ (wheelOf (stopped s) w).driver.regulating = _
          rw [wheelOf_stopped]
          exact ⟨rfl, rfl⟩
        queuesEmpty := fun _ => queueOf_stopped s
        demandsEmpty := fun _ => demandOf_stopped s
        linksStopped := fun hn => absurd (.inl rfl) hn
        unbound := fun _ => hunbound
        boundOnce := fun k hk => nomatch (hunbound 0).symm.trans hk.1
        loadEnded := fun _ => h.loadEnded hop
        programs := fun _ => .inl rfl }
  case shutDown hout => exact modeLawful_enterShutdown hout h
  case expired w c measured phase _ _ _ => exact modeLawful_withWheel (fun hn => expiryRecord_off h hn c measured phase) h
  case shorted w hd => exact modeLawful_withWheel (fun hn => absurd (wheelMode_of_regulating h hd) hn) h
  case programStarted hm _ _ =>
    have hop : OperatingMode s.mode := hm.imp_right .inr
    exact
      { h with
        resetLoads := fun hr => absurd hop (by rw [(h.resetLoads hr).1]; simp [OperatingMode])
        programs := fun _ => hop
        busy := by simp }
  case operationEnded o good status ho hidle =>
    have hop : OperatingMode s.mode := h.programs (by simp [ho])
    have hload : (operationOver s o good status).store.load = none := by
      rw [← h.loadEnded hop]
      simp only [operationOver]
      cases o.capture <;> rfl
    refine modeLawful_of_eq (s := { s with store := (operationOver s o good status).store }) (by simp [operationOver])
      (by simp [operationOver]) rfl (by simp [operationOver]) (by simp [operationOver])
      (fun w => by simp [wheelOf, operationOver]) (by simp [operationOver]) (by simp [operationOver])
      (fun p => .inr (by simp [portOf, operationOver])) (fun b => by simp [bankOf, operationOver]) ?_
    exact
      { h with
        resetLoads := fun hr => ⟨(h.resetLoads hr).1, hload⟩
        loadEnded := fun _ => hload
        programs := fun hn => absurd rfl hn
        busy := iff_of_false hidle (by simp only [operationOver] at hload ⊢; simp [hload]) }
  case paramsLoaded hdue _ =>
    exact modeLawful_loadNext (s := { s with params := _ }) (by simp [hdue]) _ { h with }
  case slotLoaded k _ _ hdue _ =>
    exact modeLawful_loadNext (s := setSlot s k _) (by simp [hdue, setSlot]) _ { h with }
  case loadPassed hdue => exact modeLawful_loadNext hdue _ h
  case loadEnded hdue hm =>
    have hnot := not_operating_of_loading h hdue
    exact
      { h with
        resetLoads := fun hr => absurd (h.resetLoads hr).2 hdue
        timerRuns := iff_of_true rfl (.inl rfl)
        timerTook := fun _ => nofun
        wheelsOff := fun _ => h.wheelsOff (not_wheelMode_of_not_operating hnot)
        queuesEmpty := fun _ => h.queuesEmpty (not_wheelMode_of_not_operating hnot)
        demandsEmpty := fun hn => absurd (.inl rfl) hn
        linksStopped := fun hn => absurd (.inl rfl) hn
        unbound := fun _ => h.unbound (by simp [hm])
        loadEnded := fun _ => rfl
        programs := fun _ => .inl rfl
        busy := by simp [operation_none_of_not_operating h hnot] }
  case loadEndedLate hdue _ =>
    exact
      { h with
        resetLoads := fun hr => absurd (h.resetLoads hr).2 hdue
        loadEnded := fun _ => rfl
        busy := by simp [operation_none_of_not_operating h (not_operating_of_loading h hdue)] }
  case reset banks _ => exact modeLawful_startReset banks
  case resetEnded a b c _ hr => exact modeLawful_begunState a b c hr h
  case resetEndedLow a b c _ hr => exact modeLawful_enterShutdown (by rw [inReset_begunState]) (modeLawful_begunState a b c hr h)

end Effects

section Checks

variable {s t : State}

/-- The second check of Table 6-3 says that both axles are ordered. -/
theorem checkPasses_two_iff : CheckPasses s 2 ↔ AxlesOrdered s.params :=
  ⟨fun h x => by cases x with | front => exact h.1 | rear => exact h.2, fun h => ⟨h .front, h .rear⟩⟩

/-- A value that keeps IMIN at most IMAX on its axle keeps both axles ordered (R139). -/
theorem axlesOrdered_putParam {ps : Params} {k : Param} {v : Int} (hk : breaksAxle ps k v = false)
    (h : AxlesOrdered ps) : AxlesOrdered (putParam ps k v) := by
  intro x
  have hx := h x
  simp only [natParam, getParam_putParam_eq] at hx ⊢
  by_cases hmin : k = .imin x
  · subst hmin
    simp only [breaksAxle, decide_eq_false_iff_not, not_lt] at hk
    simpa using Int.toNat_le_toNat hk
  · by_cases hmax : k = .imax x
    · subst hmax
      simp only [breaksAxle, decide_eq_false_iff_not, not_lt] at hk
      simpa using Int.toNat_le_toNat hk
    · rwa [if_neg (Ne.symm hmin), if_neg (Ne.symm hmax)]

/-- The checks but the second read parameters that are not live, and the validity of slots. -/
theorem checkPasses_of_kept (hparams : ∀ k, paramLive k = false → getParam t.params k = getParam s.params k)
    (haxles : AxlesOrdered t.params) (hslots : ∀ k, (slotOf s k).valid = true → (slotOf t k).valid = true) {n : Nat}
    (h : CheckPasses s n) : CheckPasses t n := by
  have hparam : ∀ k, paramLive k = false → param t k = param s k := fun k hk => congrArg Int.toNat (hparams k hk)
  unfold CheckPasses at h ⊢
  split at h
  · rwa [hparam _ rfl, hparam _ rfl]
  · exact checkPasses_two_iff.mpr haxles
  · intro w
    rw [hparam _ rfl, hparam _ rfl]
    exact h w
  · rwa [hparam _ rfl, hparam _ rfl]
  · intro w
    rw [hparam _ rfl, hparam _ rfl]
    exact (h w).imp (hslots _) (hslots _)
  · trivial

theorem checksStand_of_not_wheelMode (h : ¬ WheelMode t.mode) : ChecksStand t := fun hm => absurd hm h

/-- Where the parameters stay and no slot becomes INVALID, the checks go on standing. -/
theorem checksStand_of_kept (hmode : WheelMode t.mode → WheelMode s.mode) (hparams : t.params = s.params)
    (hslots : ∀ k, (slotOf s k).valid = true → (slotOf t k).valid = true) (h : ChecksStand s) : ChecksStand t :=
  fun hm n => checkPasses_of_kept (fun _ _ => by rw [hparams])
    (by rw [hparams]; exact checkPasses_two_iff.mp (h (hmode hm) 2)) hslots (h (hmode hm) n)

theorem checksStand_of_core {moves : Port → Prop} (hc : CoreKept moves s t) (h : ChecksStand s) : ChecksStand t :=
  checksStand_of_kept (fun hm => hc.mode ▸ hm) hc.params (fun k hk => by rwa [slotOf, hc.map]) h

/-- The whole of Table 6-3 stands when no check of 1 to 5 fails. -/
theorem checkPasses_of_failedCheck (h : failedCheck s = none) (n : Nat) : CheckPasses s n := by
  by_cases hn : 1 ≤ n ∧ n ≤ 5
  · exact failedCheck_eq_none_iff.mp h n hn.1 hn.2
  · unfold CheckPasses
    split <;> trivial

/-- Every effect keeps the checks standing: the parameters they read stay in RUN and CALIBRATE, and a load is over. -/
theorem checksStand_of_effect {i : Instr} (he : Effect i s t) (hs : ModeLawful s) (h : ChecksStand s) : ChecksStand t := by
  have hloading : s.store.load ≠ none → ¬ WheelMode s.mode := fun hl =>
    not_wheelMode_of_not_operating (not_operating_of_loading hs hl)
  cases he
  case nothing | demandsSet | demandExpired | silenced | staged | inserted | cancelled | pulsed | advanced | periodBegun
      | bankWritten | bankBound | bankUnbound | noticed | expired | shorted | programStarted =>
    exact checksStand_of_kept id rfl (fun _ => id) h
  case paramStored k v _ _ _ hlive =>
    intro hm n
    rw [storeParam_mode] at hm
    obtain ⟨hk, hbreaks⟩ := hlive (by rintro hconfig; simp [WheelMode, hconfig] at hm)
    have hparams : (storeParam k v s).params = putParam s.params k v := by rw [storeParam, unprimeFor_params]
    refine checkPasses_of_kept (s := s) (fun j hj => ?_) ?_ (fun j hv => by simpa [slotOf] using hv) (h hm n)
    · rw [hparams, getParam_putParam_eq, if_neg (by rintro rfl; simp [hk] at hj)]
    · rw [hparams]
      exact axlesOrdered_putParam hbreaks (checkPasses_two_iff.mp (h hm 2))
  case slotWritten k offset v hm _ _ =>
    exact checksStand_of_not_wheelMode (t := writeSlotEntry k offset v s) (by simp [writeSlotEntry, WheelMode, hm])
  case bankCommitted b k =>
    refine checksStand_of_kept (s := s) id rfl (fun j hj => ?_) h
    have hslot : slotOf (commitBank b k s) j = slotOf (setSlot s k ⟨(bankOf s b).entries, true⟩) j := rfl
    rw [hslot, slotOf_setSlot]
    split
    · rfl
    · exact hj
  case runEntered _ hf => exact fun _ n => checkPasses_of_failedCheck hf n
  case calibrateEntered hm => exact checksStand_of_kept (fun _ => .inl hm) rfl (fun _ => id) h
  case calibrateLeft hm => exact checksStand_of_kept (fun _ => .inr hm) rfl (fun _ => id) h
  case configEntered => exact checksStand_of_not_wheelMode (by simp [WheelMode])
  case shutDown | resetEndedLow => exact checksStand_of_not_wheelMode (by simp [WheelMode, mode_enterShutdown])
  case latchCleared k =>
    exact checksStand_of_kept (s := s) (by simp) (by simp) (fun j hj => by simpa [slotOf] using hj) h
  case operationEnded =>
    exact checksStand_of_kept (s := s) (by simp [operationOver]) (by simp [operationOver])
      (fun j hj => by simpa [slotOf, operationOver] using hj) h
  case paramsLoaded hdue _ => exact checksStand_of_not_wheelMode (hloading (by simp [hdue]))
  case slotLoaded hdue _ => exact checksStand_of_not_wheelMode (hloading (by simp [hdue]))
  case loadPassed hdue | loadEndedLate hdue _ => exact checksStand_of_not_wheelMode (hloading hdue)
  case loadEnded => exact checksStand_of_not_wheelMode (by simp [WheelMode])
  case reset => exact checksStand_of_not_wheelMode (by simp [WheelMode, startReset, State.reset])
  case resetEnded a b c _ hr =>
    refine checksStand_of_core (coreKept_begunState (moves := fun _ => False) a b c s)
      (checksStand_of_not_wheelMode (?_ : ¬ WheelMode s.mode))
    rw [(hs.resetLoads hr).1]
    simp [WheelMode]

end Checks

/-- Settles O56: both laws hold of what a command leaves, effect by effect. -/
theorem stepKeepsModesLawful : Obligations.StepKeepsModesLawful := by
  unfold Obligations.StepKeepsModesLawful
  refine ⟨fun s t hs hstep => ?_, fun s t hs hchecks hstep => ?_⟩
  · exact step_keeps (P := ModeLawful) (fun _ h => { h with }) modeLawful_of_core modeLawful_of_effect hs hstep
  · exact (step_keeps (P := fun s => ModeLawful s ∧ ChecksStand s) (fun _ h => ⟨{ h.1 with }, h.2⟩)
      (fun hc h => ⟨modeLawful_of_core hc h.1, checksStand_of_core hc h.2⟩)
      (fun he h => ⟨modeLawful_of_effect he h.1, checksStand_of_effect he h.1 h.2⟩) ⟨hs, hchecks⟩ hstep).2

section Shutdown

variable {i : Instr} {s t : State}

/-- No effect but the start of a reset leaves SHUTDOWN. -/
theorem shutdown_of_effect (he : Effect i s t) (hm : s.mode = .shutdown) :
    t.mode = .shutdown ∨ (i = .powerOnReset ∨ i = .resetLineReset) ∧ ∃ banks, t = startReset banks s := by
  cases he
  case reset banks hi => exact .inr ⟨hi, banks, rfl⟩
  case runEntered h _ | calibrateEntered h | calibrateLeft h | loadEnded h => exact nomatch hm.symm.trans h
  case configEntered h => exact h.elim (fun h => nomatch hm.symm.trans h) fun h => nomatch hm.symm.trans h
  case paramStored | latchCleared => exact .inl (by simpa using hm)
  case operationEnded => exact .inl (by simpa [operationOver] using hm)
  case shutDown | resetEndedLow => exact .inl (mode_enterShutdown _)
  case resetEnded a b c _ _ =>
    exact .inl ((coreKept_begunState (moves := fun _ => False) a b c s).mode.trans hm)
  all_goals exact .inl hm

/-- Settles O51. -/
theorem shutdownLastsUntilReset : Obligations.ShutdownLastsUntilReset := by
  unfold Obligations.ShutdownLastsUntilReset
  intro i s t hexec hm hpower hline
  obtain ⟨u, v, hsu, he, hvt⟩ := course_of_exec hexec
  rw [hvt.mode]
  exact (shutdown_of_effect he (hsu.mode.trans hm)).resolve_right fun hreset => hreset.1.elim hpower hline

end Shutdown

end Sys2Proof.Proofs
end

section
/-! PROOF. A step keeps the law on coil currents and the counts in their ranges (O57), and a running wheel's target falls by
no more than SLEW_DOWN (O45). A cycle expiry judges the record of its wheel by the coil checks and settles it, unless the
coil is open; what settling leaves is said once, for a wheel that runs on and for one that does not. -/

namespace Sys2Proof.Proofs

open Sys2Proof.Machine

/-- The record of an expiring wheel after steps 1 to 3 and, where it was running, the coil checks (R110, R111). -/
def judgedRecord (s : State) (w : Wheel) (c measured phase : Nat) : WheelRecord :=
  if isRunning (wheelOf s w).state then countedChecks (strokedRecord s w c measured phase)
  else strokedRecord s w c measured phase

section Expiry

variable {s : State} {w : Wheel} {c measured phase : Nat}

/-- A wheel that was running has its coil found open. -/
abbrev TripsOpen (s : State) (w : Wheel) (c measured phase : Nat) : Prop :=
  isRunning (wheelOf s w).state = true ∧ findsOpen (strokedRecord s w c measured phase) = true

theorem expiryRecord_of_open (h : TripsOpen s w c measured phase) :
    expiryRecord s w c measured phase = tripped (judgedRecord s w c measured phase) := by
  simp only [expiryRecord, judgedRecord, h.1, h.2, if_true]

theorem expiryRecord_of_not_open (h : ¬ TripsOpen s w c measured phase) :
    expiryRecord s w c measured phase = settleWheel s w (judgedRecord s w c measured phase) := by
  unfold expiryRecord judgedRecord
  by_cases hrun : isRunning (wheelOf s w).state = true
  · simp only [hrun, if_true, if_neg fun hopen => h ⟨hrun, hopen⟩]
  · simp only [if_neg hrun]

theorem state_judgedRecord : (judgedRecord s w c measured phase).state = (wheelOf s w).state := by
  unfold judgedRecord
  split <;> rfl

theorem latched_judgedRecord : (judgedRecord s w c measured phase).latched = latchedFrom s.params w := by
  unfold judgedRecord
  split <;> rfl

theorem previousTarget_judgedRecord :
    (judgedRecord s w c measured phase).previousTarget = (wheelOf s w).previousTarget := by
  unfold judgedRecord
  split <;> rfl

theorem measured_judgedRecord : (judgedRecord s w c measured phase).measured = measured := by
  unfold judgedRecord
  split <;> rfl

end Expiry

section Settling

variable {s : State} {w : Wheel} {r : WheelRecord}

/-- The counts of a wheel that settles into a running state: kept if it was running, else 0 (R101, R109). -/
theorem counts_settleWheel_of_running (h : isRunning (settledState s.mode r) = true) :
    (settleWheel s w r).openCount = (if isRunning r.state then r.openCount else 0) ∧
      (settleWheel s w r).regulationCount = (if isRunning r.state then r.regulationCount else 0) := by
  rw [settleWheel_of_running h]
  simp only [runSteps, enterRunning]
  split <;> exact ⟨rfl, rfl⟩

theorem latched_settleWheel : (settleWheel s w r).latched = r.latched := by
  by_cases h : isRunning (settledState s.mode r) = true
  · rw [settleWheel_of_running h]
    simp only [runSteps, enterRunning]
    split <;> rfl
  · rw [settleWheel_of_stopped h]
    rfl

theorem measured_settleWheel : (settleWheel s w r).measured = r.measured := by
  by_cases h : isRunning (settledState s.mode r) = true
  · rw [settleWheel_of_running h]
    simp only [runSteps, enterRunning]
    split <;> rfl
  · rw [settleWheel_of_stopped h]
    rfl

/-- The target of a running cycle (R85-R88), from the arbitration and the lookup of its wheel. -/
def cycleTarget (s : State) (w : Wheel) (r : WheelRecord) : Nat :=
  let a := arbitrate s w r.latched.defLevel
  shapedTarget (mapLookup s a (velocityUsed r.stroke)) r.previousTarget a.winner r.latched

/-- A wheel that settles into a running state hands the target of the cycle to its driver (R107). -/
theorem driver_settleWheel_of_running (h : isRunning (settledState s.mode r) = true) :
    (settleWheel s w r).target = cycleTarget s w r ∧ (settleWheel s w r).previousTarget = some (cycleTarget s w r) ∧
      (settleWheel s w r).driver = ⟨true, cycleTarget s w r⟩ := by
  rw [settleWheel_of_running h]
  simp only [runSteps, enterRunning]
  split <;> exact ⟨rfl, rfl, rfl⟩

end Settling

section Drivers

theorem driverLawful_of_stopped {r : WheelRecord} (hstate : ¬ (r.state = .active ∨ r.state = .degraded))
    (hdriver : r.driver = ⟨false, 0⟩) (hprevious : r.previousTarget = none) : DriverLawful r :=
  ⟨fun _ => ⟨hdriver, hprevious⟩, fun h => absurd h hstate⟩

theorem driverLawful_turnedOff (r : WheelRecord) : DriverLawful (turnedOff r) :=
  driverLawful_of_stopped (by simp [turnedOff]) rfl rfl

theorem driverLawful_tripped (r : WheelRecord) : DriverLawful (tripped r) :=
  driverLawful_of_stopped (by simp [tripped]) rfl rfl

variable {s t : State} {w : Wheel}

/-- The currents latched for a wheel lie in order while wheels may run (R59, R121). -/
theorem latched_ordered (h : AxlesOrdered s.params) (w : Wheel) :
    (latchedFrom s.params w).imin ≤ (latchedFrom s.params w).imax := h w.axle

/-- A settled wheel obeys the law on coil currents, where the latched currents are in order (R88, R107). -/
theorem driverLawful_settleWheel {r : WheelRecord} (h : WheelMode s.mode → r.latched.imin ≤ r.latched.imax) :
    DriverLawful (settleWheel s w r) := by
  have hstate := state_settleWheel s w r
  by_cases hrun : isRunning (settledState s.mode r) = true
  · obtain ⟨htarget, hprevious, hdriver⟩ := driver_settleWheel_of_running (w := w) hrun
    have hrunning := (isRunning_iff _).mp hrun
    refine ⟨fun hstopped => absurd (hstate ▸ hrunning) hstopped, fun _ => ?_⟩
    rw [htarget, hprevious, hdriver, latched_settleWheel]
    exact ⟨rfl, rfl, clamped_mem (h (wheelMode_of_settled hrun).1)⟩
  · refine driverLawful_of_stopped ?_ ?_ ?_
    · rw [hstate, ← isRunning_iff]
      exact hrun
    · rw [settleWheel_of_stopped hrun]
      rfl
    · rw [settleWheel_of_stopped hrun]
      rfl

theorem driverLawful_expiryRecord (h : WheelMode s.mode → AxlesOrdered s.params) (c measured phase : Nat) :
    DriverLawful (expiryRecord s w c measured phase) := by
  by_cases hopen : TripsOpen s w c measured phase
  · rw [expiryRecord_of_open hopen]
    exact driverLawful_tripped _
  · rw [expiryRecord_of_not_open hopen]
    exact driverLawful_settleWheel fun hm => by
      rw [latched_judgedRecord]
      exact latched_ordered (h hm) w

/-- The drivers go on obeying their law where every wheel record is an old one, but for its latch and its stroke fields, or
one that obeys the law. -/
theorem driversLawful_of_wheels
    (hwheels : ∀ w, DriverLawful (wheelOf t w) ∨
      ∃ latch stroke, wheelOf t w = { wheelOf s w with latch := latch, stroke := stroke })
    (h : ∀ w, DriverLawful (wheelOf s w)) (w : Wheel) : DriverLawful (wheelOf t w) := by
  obtain hw | ⟨latch, stroke, hw⟩ := hwheels w
  · exact hw
  · rw [hw]
    exact h w

/-- Every effect keeps the axles ordered while wheels may run (R121, R139). -/
theorem axlesOrdered_of_effect {i : Instr} (he : Effect i s t) (hs : ModeLawful s)
    (h : WheelMode s.mode → AxlesOrdered s.params) : WheelMode t.mode → AxlesOrdered t.params := by
  cases he
  case paramStored k v _ _ _ hlive =>
    rw [storeParam_mode, show (storeParam k v s).params = putParam s.params k v by rw [storeParam, unprimeFor_params]]
    exact fun hm =>
      axlesOrdered_putParam (hlive (by rintro hconfig; simp [WheelMode, hconfig] at hm)).2 (h hm)
  case runEntered _ hf => exact fun _ => checkPasses_two_iff.mp (checkPasses_of_failedCheck hf 2)
  case calibrateEntered hm => exact fun _ => h (.inl hm)
  case calibrateLeft hm => exact fun _ => h (.inr hm)
  case configEntered | loadEnded => exact fun hm => absurd hm (by simp [WheelMode])
  case shutDown | resetEndedLow => exact fun hm => absurd hm (by simp [WheelMode, mode_enterShutdown])
  case latchCleared | operationEnded => simpa [operationOver] using h
  case paramsLoaded hdue _ =>
    have hnot : ¬ OperatingMode s.mode := not_operating_of_loading hs (by simp [hdue])
    exact fun hm => absurd hm (not_wheelMode_of_not_operating hnot)
  case reset => exact fun hm => absurd hm (by simp [WheelMode, startReset, State.reset])
  case resetEnded a b c _ _ =>
    have hc := coreKept_begunState (moves := fun _ => False) a b c s
    rw [hc.mode, hc.params]
    exact h
  all_goals exact h

/-- Every effect keeps the law on coil currents (R107). -/
theorem driversLawful_of_effect {i : Instr} (he : Effect i s t) (h : DriversLawful s) : DriversLawful t := by
  obtain ⟨hmode, haxles, hdrivers⟩ := h
  refine ⟨modeLawful_of_effect he hmode, axlesOrdered_of_effect he hmode haxles,
    driversLawful_of_wheels (fun u => ?_) hdrivers⟩
  cases he
  case paramStored =>
    rw [wheelOf_storeParam]
    split <;> exact .inr ⟨_, _, rfl⟩
  case latchCleared =>
    rw [wheelOf_clearLatchOf]
    split <;> exact .inr ⟨_, _, rfl⟩
  case expired w c measured phase _ _ _ =>
    rw [wheelOf_withWheel]
    split
    · exact .inl (driverLawful_expiryRecord haxles c measured phase)
    · exact .inr ⟨_, _, rfl⟩
  case shorted =>
    rw [wheelOf_withWheel]
    split
    · exact .inl (driverLawful_tripped _)
    · exact .inr ⟨_, _, rfl⟩
  case configEntered =>
    have hw : wheelOf { stopped s with mode := .config } u = turnedOff (wheelOf s u) := wheelOf_stopped s u
    exact .inl (hw ▸ driverLawful_turnedOff _)
  case shutDown | resetEndedLow =>
    rw [wheelOf_enterShutdown]
    exact .inl (driverLawful_turnedOff _)
  case operationEnded => exact .inr ⟨_, _, by simp [wheelOf, operationOver]; rfl⟩
  case reset =>
    rw [wheelOf_startReset]
    exact .inl (driverLawful_of_stopped (by simp [WheelRecord.reset]) rfl rfl)
  case resetEnded =>
    rw [wheelOf_begunState]
    exact .inr ⟨_, _, rfl⟩
  all_goals exact .inr ⟨_, _, rfl⟩

theorem driversLawful_of_core {moves : Port → Prop} (hc : CoreKept moves s t) (h : DriversLawful s) : DriversLawful t :=
  ⟨modeLawful_of_core hc h.1, by rw [hc.mode, hc.params]; exact h.2.1, by simp only [wheelOf, hc.wheels]; exact h.2.2⟩

end Drivers

section Counts

variable {s t : State} {w : Wheel}

theorem raisedOpen_le (r : WheelRecord) : raisedOpen r ≤ r.openCount + 1 := by
  unfold raisedOpen
  split <;> omega

/-- The checks of a running wheel keep its counts in their ranges, and the third open cycle ends its running (R110, R111). -/
theorem countsInRange_countedChecks {r : WheelRecord} (hrun : Running r) (h : CountsInRange r) :
    (countedChecks r).openCount ≤ 3 ∧ (findsOpen r = false → (countedChecks r).openCount ≤ 2) ∧
      (countedChecks r).regulationCount ≤ 7 := by
  obtain ⟨-, hopen, hregulation, -⟩ := h
  have hraised := raisedOpen_le r
  refine ⟨hraised.trans (Nat.succ_le_succ (hopen hrun)), fun hfound => ?_, ?_⟩
  · have hless : ¬ Config.openCycles ≤ raisedOpen r := of_decide_eq_false hfound
    exact Nat.le_of_lt_succ (not_le.mp hless)
  · have hlogs : logsRegulation r = true ↔ raisedRegulation r = 8 := by simp [logsRegulation, Config.regulationCycles]
    simp only [countedChecks, hlogs, raisedRegulation]
    split <;> split <;> omega

theorem countsInRange_of_stopped {r : WheelRecord} (hstate : ¬ Running r) (hopen : r.openCount ≤ 3)
    (hregulation : r.regulationCount ≤ 7) (hmeasured : r.measured ≤ 2600) : CountsInRange r :=
  ⟨hopen, fun h => absurd h hstate, hregulation, hmeasured⟩

/-- Settling keeps counts in their ranges. -/
theorem countsInRange_settleWheel {r : WheelRecord} (hopen : r.openCount ≤ 3) (hrun : Running r → r.openCount ≤ 2)
    (hregulation : r.regulationCount ≤ 7) (hmeasured : r.measured ≤ 2600) : CountsInRange (settleWheel s w r) := by
  by_cases hsettled : isRunning (settledState s.mode r) = true
  · obtain ⟨hopens, hregulates⟩ := counts_settleWheel_of_running (w := w) hsettled
    have htwo : (settleWheel s w r).openCount ≤ 2 := by
      rw [hopens]
      split
      · next hr => exact hrun ((isRunning_iff _).mp hr)
      · exact Nat.zero_le 2
    refine ⟨htwo.trans (by decide), fun _ => htwo, ?_, measured_settleWheel.trans_le hmeasured⟩
    rw [hregulates]
    split
    · exact hregulation
    · exact Nat.zero_le 7
  · have hstate : ¬ Running (settleWheel s w r) := by
      rw [Running, state_settleWheel, ← isRunning_iff]
      exact hsettled
    rw [settleWheel_of_stopped hsettled] at hstate ⊢
    exact countsInRange_of_stopped hstate hopen hregulation hmeasured

theorem countsInRange_expiryRecord {c measured phase : Nat} (hmeasured : measured ≤ 2600)
    (h : CountsInRange (wheelOf s w)) : CountsInRange (expiryRecord s w c measured phase) := by
  have hstroked : CountsInRange (strokedRecord s w c measured phase) := ⟨h.1, h.2.1, h.2.2.1, hmeasured⟩
  by_cases hrun : isRunning (wheelOf s w).state = true
  · obtain ⟨hthree, htwo, hregulation⟩ := countsInRange_countedChecks (r := strokedRecord s w c measured phase)
      ((isRunning_iff _).mp hrun) hstroked
    have hjudged : judgedRecord s w c measured phase = countedChecks (strokedRecord s w c measured phase) := if_pos hrun
    by_cases hopen : TripsOpen s w c measured phase
    · rw [expiryRecord_of_open hopen, hjudged]
      exact countsInRange_of_stopped (by simp [tripped]) hthree hregulation hmeasured
    · rw [expiryRecord_of_not_open hopen, hjudged]
      exact countsInRange_settleWheel hthree
        (fun _ => htwo (Bool.eq_false_iff.mpr fun hfound => hopen ⟨hrun, hfound⟩)) hregulation hmeasured
  · rw [expiryRecord_of_not_open fun hopen => hrun hopen.1, judgedRecord, if_neg hrun]
    exact countsInRange_settleWheel hstroked.1 hstroked.2.1 hstroked.2.2.1 hmeasured

theorem countsInRange_turnedOff {r : WheelRecord} (h : CountsInRange r) : CountsInRange (turnedOff r) := by
  obtain ⟨hopen, -, hregulation, hmeasured⟩ := h
  exact countsInRange_of_stopped (by simp [turnedOff]) hopen hregulation hmeasured

theorem travel_enterShutdown (s : State) : (enterShutdown s).travel = s.travel := by
  simp only [enterShutdown, changeMode_travel, abortInFlight_travel]
  rfl

theorem countsLawful_of_core {moves : Port → Prop} (hc : CoreKept moves s t) (h : CountsLawful s) : CountsLawful t :=
  ⟨by rw [hc.accumulator]; exact h.1, by simp only [wheelOf, hc.wheels]; exact h.2⟩

theorem countsLawful_begunState (a b c : BitVec 2) (h : CountsLawful s) : CountsLawful (begunState a b c s) :=
  countsLawful_of_core (s := rolesGiven a b c s) (coreKept_begunState (moves := fun _ => False) a b c s) h

theorem countsLawful_of_effect {i : Instr} (he : Effect i s t) (h : CountsLawful s) : CountsLawful t := by
  obtain ⟨haccumulator, hcounts⟩ := h
  cases he
  case pulsed => exact ⟨Nat.le_of_lt_succ (Nat.mod_lt _ (by decide)), hcounts⟩
  case advanced => exact ⟨haccumulator, hcounts⟩
  case paramStored =>
    refine ⟨by simpa using haccumulator, fun w => ?_⟩
    rw [wheelOf_storeParam]
    split <;> exact hcounts w
  case latchCleared =>
    refine ⟨by simpa using haccumulator, fun w => ?_⟩
    rw [wheelOf_clearLatchOf]
    split <;> exact hcounts w
  case expired w c measured phase _ hmeasured _ =>
    refine ⟨haccumulator, fun u => ?_⟩
    rw [wheelOf_withWheel]
    split
    · exact countsInRange_expiryRecord hmeasured (hcounts w)
    · exact hcounts u
  case shorted w _ =>
    refine ⟨haccumulator, fun u => ?_⟩
    rw [wheelOf_withWheel]
    split
    · obtain ⟨hopen, -, hregulation, hmeasured⟩ := hcounts w
      exact countsInRange_of_stopped (by simp [tripped]) hopen hregulation hmeasured
    · exact hcounts u
  case configEntered =>
    refine ⟨haccumulator, fun u => ?_⟩
    have hw : wheelOf { stopped s with mode := .config } u = turnedOff (wheelOf s u) := wheelOf_stopped s u
    exact hw ▸ countsInRange_turnedOff (hcounts u)
  case shutDown =>
    rw [CountsLawful, travel_enterShutdown]
    exact ⟨haccumulator, fun u => wheelOf_enterShutdown s u ▸ countsInRange_turnedOff (hcounts u)⟩
  case operationEnded => simpa [CountsLawful, operationOver, wheelOf] using And.intro haccumulator hcounts
  case reset banks _ =>
    refine ⟨Nat.zero_le _, fun u => ?_⟩
    rw [wheelOf_startReset]
    exact countsInRange_of_stopped (by simp [WheelRecord.reset]) (Nat.zero_le _) (Nat.zero_le _) (Nat.zero_le _)
  case resetEnded a b c _ _ => exact countsLawful_begunState a b c ⟨haccumulator, hcounts⟩
  case resetEndedLow a b c _ _ =>
    obtain ⟨hover, hkept⟩ := countsLawful_begunState a b c ⟨haccumulator, hcounts⟩
    rw [CountsLawful, travel_enterShutdown]
    exact ⟨hover, fun u => wheelOf_enterShutdown _ u ▸ countsInRange_turnedOff (hkept u)⟩
  all_goals exact ⟨haccumulator, hcounts⟩

end Counts

/-- Settles O57: both laws hold of what a command leaves, effect by effect. -/
theorem stepKeepsDriversLawful : Obligations.StepKeepsDriversLawful := by
  unfold Obligations.StepKeepsDriversLawful
  refine ⟨fun s t hs hstep => ?_, fun s t hs hstep => ?_⟩
  · exact step_keeps (P := DriversLawful) (fun _ h => ⟨{ h.1 with }, h.2⟩) driversLawful_of_core driversLawful_of_effect hs
      hstep
  · exact step_keeps (P := CountsLawful) (fun _ h => h) countsLawful_of_core countsLawful_of_effect hs hstep

section Slew

/-- The slew step lets a target fall by no more than SLEW_DOWN (R87). -/
theorem slewed_ge (q : Int) (p : Nat) (winner : Winner) (slewUp slewDown : Nat) :
    (p : Int) - slewDown ≤ slewed q (some p) winner slewUp slewDown := by
  simp only [slewed]
  split
  · split <;> omega
  · split <;> omega

/-- The clamp lowers a value only to IMAX (R88). -/
theorem le_clamped_or (q : Int) (imin imax : Nat) : q ≤ clamped q imin imax ∨ clamped q imin imax = imax ∧ (imax : Int) < q := by
  unfold clamped
  split
  · exact .inl (by omega)
  · split
    · exact .inr ⟨rfl, by assumption⟩
    · exact .inl (by omega)

/-- The shaped target falls by no more than SLEW_DOWN unless IMAX lies lower (R87, R88). -/
theorem shapedTarget_fall (mapResult p : Nat) (winner : Winner) (l : Latched) :
    p ≤ shapedTarget mapResult (some p) winner l + l.slewDown ∨
      (shapedTarget mapResult (some p) winner l = l.imax ∧ l.imax + l.slewDown < p) := by
  have hslew := slewed_ge (trimmed mapResult l.trim) p winner l.slewUp l.slewDown
  unfold shapedTarget
  obtain hle | ⟨hmax, hlt⟩ := le_clamped_or (slewed (trimmed mapResult l.trim) (some p) winner l.slewUp l.slewDown) l.imin l.imax
  · exact .inl (by omega)
  · rw [hmax]
    omega

variable {s t : State} {u : Wheel} {c measured : Nat}

/-- A cycle expiry touches the record of its wheel alone (R57). -/
theorem wheelOf_runExpiry (s : State) (u w : Wheel) (c measured phase : Nat) :
    wheelOf (runExpiry u c measured phase s) w = if w = u then expiryRecord s u c measured phase else wheelOf s w := by
  rw [wheelOf, (coreKept_runExpiry (moves := fun _ => False) (s := s) u c measured phase).wheels]
  exact wheelOf_withWheel ..

theorem unlessInReset_of_lasting {f : State → State} (h : s.inReset = true) : unlessInReset s f = s := if_pos h

theorem unlessInReset_of_over {f : State → State} (h : s.inReset = false) : unlessInReset s f = f s :=
  if_neg (by simp [h])

/-- What a CYCLE_EXPIRY leaves of each wheel: its wheel's record after an expiry that came, the others as they were. -/
theorem wheelOf_cycleExpiry {code : BitVec 12} {m : Fin 2601} (hexec : exec (.cycleExpiry u code m) s = .next t) (w : Wheel) :
    wheelOf t w = wheelOf s w ∨ w = u ∧ ∃ phase, wheelOf t w = expiryRecord s w code.toNat m.val phase := by
  cases hexec
  cases hr : s.inReset with
  | true => rw [unlessInReset_of_lasting hr]; exact .inl rfl
  | false =>
    rw [unlessInReset_of_over hr, takeExpiry]
    cases hp : expiryPhase s u with
    | none => exact .inl rfl
    | some phase =>
      dsimp only
      rw [wheelOf_runExpiry]
      split
      · next hw => exact .inr ⟨hw, phase, by rw [hw]⟩
      · exact .inl rfl

/-- Settles O45: the running wheel's previous target is its target, against which the shaping slews. -/
theorem targetFallIsLimited : Obligations.TargetFallIsLimited := by
  unfold Obligations.TargetFallIsLimited
  rintro w u code m s t ⟨-, -, hdrivers⟩ hexec hbefore hafter
  obtain hw | ⟨rfl, phase, hw⟩ := wheelOf_cycleExpiry hexec w
  · rw [hw]
    exact .inl (Nat.le_add_right _ _)
  rw [hw] at hafter ⊢
  have hclosed : ¬ TripsOpen s w code.toNat m.val phase := fun hopen => by
    rw [expiryRecord_of_open hopen] at hafter
    exact hafter.elim nofun nofun
  rw [expiryRecord_of_not_open hclosed] at hafter ⊢
  have hrun : isRunning (settledState s.mode (judgedRecord s w code.toNat m.val phase)) = true := by
    rw [isRunning_iff, ← state_settleWheel s w]
    exact hafter
  obtain ⟨-, hprevious, -⟩ := (hdrivers w).2 hbefore
  rw [(driver_settleWheel_of_running hrun).1, latched_settleWheel, cycleTarget, previousTarget_judgedRecord, hprevious]
  exact shapedTarget_fall ..

end Slew

end Sys2Proof.Proofs
end

section
/-! PROOF. Reported marks follow their causes (O58). Every effect leaves the marks and the wheel states as they were, or
settles the marks by the wheel states, or is a NOTICE's acknowledgement or the start of a reset. -/

namespace Sys2Proof.Proofs

open Sys2Proof.Machine

section Marks

variable {before after s t : State}

theorem markIn_setMark (m : MarkSet) (l k : LevelCause) (v : Bool) :
    markIn (setMark m l v) k = if k = l then v else markIn m k := by
  cases l <;> cases k <;> rfl

theorem newlyIn_iff (st : WheelState) :
    newlyIn before after st = true ↔ ∃ w, (wheelOf after w).state = st ∧ (wheelOf before w).state ≠ st := by
  simp only [newlyIn, List.any_eq_true, Bool.and_eq_true, beq_iff_eq, bne_iff_ne]
  exact ⟨fun ⟨w, _, h⟩ => ⟨w, h⟩, fun ⟨w, h⟩ => ⟨w, Wheel.mem_all w, h⟩⟩

/-- No wheel entering a wheel cause's state is what `newlyIn` denies. -/
theorem newlyIn_eq_false_iff {l : LevelCause} {st : WheelState} (hl : causeState l = some st) :
    newlyIn before after st = false ↔ ∀ w, ¬ EntersCause before after l w := by
  rw [← Bool.not_eq_true, newlyIn_iff, not_exists]
  refine forall_congr' fun w => not_congr ⟨?_, ?_⟩
  · rintro ⟨rfl, hbefore⟩
    exact ⟨hl, hbefore⟩
  · rintro ⟨hafter, hbefore⟩
    obtain rfl : st = (wheelOf after w).state := Option.some.inj (hl.symm.trans hafter)
    exact ⟨rfl, hbefore⟩

/-- A settled mark stands where it stood, its wheel cause goes on, and no wheel entered its state (R146). -/
theorem markIn_settledMarks_iff (m : MarkSet) (l : LevelCause) :
    markIn (settledMarks before after m) l = true ↔
      markIn m l = true ∧ (l ≠ .shutdown → levelHolds after l = true) ∧ ∀ w, ¬ EntersCause before after l w := by
  cases l with
  | shutdown => simp [markIn, settledMarks, EntersCause, causeState]
  | wheelFailsafe =>
    rw [← newlyIn_eq_false_iff rfl]
    simp [markIn, settledMarks, levelHolds, and_assoc]
  | wheelDegraded =>
    rw [← newlyIn_eq_false_iff rfl]
    simp [markIn, settledMarks, levelHolds, and_assoc]

theorem someWheelIn_congr (h : ∀ w, (wheelOf t w).state = (wheelOf s w).state) (st : WheelState) :
    someWheelIn t st = someWheelIn s st := by
  simp only [someWheelIn, h]

/-- Where no wheel is FAILSAFE or DEGRADED, settling clears the marks of both wheel causes. -/
theorem settledMarks_of_off (h : ∀ w, (wheelOf after w).state = .off) (m : MarkSet) :
    settledMarks before after m = { m with wheelFailsafe := false, wheelDegraded := false } := by
  have hnone : ∀ st, st ≠ .off → someWheelIn after st = false := fun st hst => by
    rw [← Bool.not_eq_true, someWheelIn_iff]
    rintro ⟨w, hw⟩
    exact hst (hw.symm.trans (h w))
  rw [settledMarks, hnone .failsafe (by decide), hnone .degraded (by decide)]
  simp only [Bool.and_false, Bool.false_and]

end Marks

/-- How a command moves the reported marks. -/
inductive MarksMove (i : Instr) (s t : State) : Prop
  | kept (wheels : ∀ w, (wheelOf t w).state = (wheelOf s w).state)
      (reported : ∀ p, (portOf t p).reported = (portOf s p).reported)
  | settled (reported : ∀ p, (portOf t p).reported = settledMarks s t (portOf s p).reported)
  | noticed (h : Header) (d : BitVec 12) (l : LevelCause) (notice : i = .notice h d) (holds : levelHolds s l = true)
      (eq : t = acknowledge s h.port (.level l))
  | cleared (wheels : ∀ w, (wheelOf t w).state = .off) (mode : t.mode ≠ .shutdown)
      (reported : ∀ p l, markIn (portOf t p).reported l = false)

section Moves

variable {i : Instr} {s t : State}

theorem reported_withWheel (w : Wheel) (r : WheelRecord) (p : Port) :
    (portOf (withWheel s w r) p).reported = settledMarks s (withWheel s w r) (portOf s p).reported := by
  rw [portOf_withWheel]
  exact (settledMarks_congr rfl _).symm

theorem reported_enterShutdown (p : Port) :
    (portOf (enterShutdown s) p).reported = settledMarks s (enterShutdown s) (portOf s p).reported := by
  rw [settledMarks_of_off fun w => by rw [wheelOf_enterShutdown]; rfl, portOf_enterShutdown]

theorem reported_begunState (a b c : BitVec 2) (p : Port) :
    (portOf (begunState a b c s) p).reported = (portOf s p).reported := by
  refine ((coreKept_begunState (moves := fun _ => False) a b c s).ports p).reported.trans ?_
  change (portOf (fixRoles _ _) p).reported = _
  rw [fixRoles, portOf_modifyPorts]
  rfl

theorem reported_startReset (banks : ErrorBanks) (p : Port) (l : LevelCause) :
    markIn (portOf (startReset banks s) p).reported l = false := by
  rw [portOf, startReset, PerPort.get_mapWith]
  cases l <;> rfl

theorem marksMove_of_effect (he : Effect i s t) : MarksMove i s t := by
  cases he
  case silenced p =>
    refine .kept (fun _ => rfl) fun q => ?_
    change (portOf (silencePort p s) q).reported = _
    rw [silencePort, portOf_modifyPort]
    split <;> rfl
  case staged =>
    refine .kept (fun _ => rfl) fun q => ?_
    rw [modifyStaging, portOf_modifyPort]
    split <;> rfl
  case paramStored =>
    refine .kept (fun w => ?_) fun _ => by simp [portOf]
    rw [wheelOf_storeParam]
    split <;> rfl
  case latchCleared =>
    refine .kept (fun w => ?_) fun _ => by simp [portOf]
    rw [wheelOf_clearLatchOf]
    split <;> rfl
  case operationEnded => exact .kept (fun _ => by simp [wheelOf, operationOver]) fun _ => by simp [portOf, operationOver]
  case noticed h d l hi hholds => exact .noticed h d l hi hholds rfl
  case expired | shorted => exact .settled (reported_withWheel _ _)
  case configEntered =>
    refine .settled fun p => ?_
    rw [settledMarks_of_off fun w => ?_]
    · exact congrArg PortState.reported (portOf_stopped s p)
    · exact congrArg WheelRecord.state (wheelOf_stopped s w)
  case shutDown => exact .settled reported_enterShutdown
  case reset =>
    exact .cleared (fun w => by rw [wheelOf_startReset]; rfl) (by simp [startReset, State.reset]) (reported_startReset _)
  case resetEnded a b c _ _ =>
    exact .kept (fun w => by rw [wheelOf_begunState]) (reported_begunState a b c)
  case resetEndedLow a b c _ _ =>
    have hoff : ∀ w, (wheelOf (enterShutdown (begunState a b c s)) w).state = .off := fun w => by
      rw [wheelOf_enterShutdown]
      rfl
    refine .settled fun p => ?_
    rw [reported_enterShutdown, reported_begunState, settledMarks_of_off hoff, settledMarks_of_off hoff]
  all_goals exact .kept (fun _ => rfl) fun _ => rfl

end Moves

section Laws

variable {i : Instr} {s t : State}

/-- The marks of one command at one port: cleared by a wheel newly in the state, kept while the cause goes on and gains no
wheel, and set by a NOTICE alone (R146, R149). -/
def MarksFollow (i : Instr) (s t : State) : Prop :=
  ∀ p l, (∀ w, EntersCause s t l w → markIn (portOf t p).reported l = false) ∧
    (markIn (portOf s p).reported l = true → levelHolds t l = true → (∀ w, ¬ EntersCause s t l w) →
      markIn (portOf t p).reported l = true) ∧
    (markIn (portOf s p).reported l = false → markIn (portOf t p).reported l = true → ∃ h d, i = .notice h d ∧ h.port = p)

theorem not_entersCause_of_kept (hwheels : ∀ w, (wheelOf t w).state = (wheelOf s w).state) (l : LevelCause) (w : Wheel) :
    ¬ EntersCause s t l w := fun h => h.2 (hwheels w).symm

/-- No wheel that is OFF is in a level cause's state. -/
theorem not_entersCause_of_off (hwheels : ∀ w, (wheelOf t w).state = .off) (l : LevelCause) (w : Wheel) :
    ¬ EntersCause s t l w := by
  rintro ⟨hstate, -⟩
  rw [hwheels w] at hstate
  cases l <;> cases hstate

theorem reported_acknowledge (h : Header) (k : LevelCause) (p : Port) (l : LevelCause) :
    markIn (portOf (acknowledge s h.port (.level k)) p).reported l =
      if p = h.port ∧ l = k then true else markIn (portOf s p).reported l := by
  rw [acknowledge, portOf_modifyPort]
  by_cases hp : p = h.port
  · subst hp
    simp only [if_true, markIn_setMark, true_and]
  · simp only [hp, if_false, false_and]

theorem marksFollow_of_move (hm : MarksMove i s t) : MarksFollow i s t := by
  intro p l
  cases hm with
  | kept hwheels hreported =>
    rw [hreported]
    exact ⟨fun w hw => absurd hw (not_entersCause_of_kept hwheels l w), fun h _ _ => h, fun hf ht => nomatch hf.symm.trans ht⟩
  | settled hreported =>
    rw [hreported]
    refine ⟨fun w hw => ?_, fun hmark hholds hno => ?_, fun hf ht => ?_⟩
    · exact Bool.eq_false_iff.mpr fun ht => ((markIn_settledMarks_iff _ l).mp ht).2.2 w hw
    · exact (markIn_settledMarks_iff _ l).mpr ⟨hmark, fun _ => hholds, hno⟩
    · exact nomatch hf.symm.trans ((markIn_settledMarks_iff _ l).mp ht).1
  | noticed h d k hi _ ht =>
    rw [ht, reported_acknowledge]
    refine ⟨fun w hw => absurd hw (not_entersCause_of_kept (fun w => by rw [wheelOf, acknowledge_wheels]; rfl) l w),
      fun hmark _ _ => ?_, fun hf hmark => ?_⟩
    · rw [hmark, ite_self]
    · split at hmark
      · next hp => exact ⟨h, d, hi, hp.1.symm⟩
      · exact nomatch hf.symm.trans hmark
  | cleared hwheels hmode hreported =>
    rw [hreported]
    refine ⟨fun _ _ => rfl, fun _ hholds _ => ?_, nofun⟩
    cases l with
    | shutdown => exact absurd (by simpa [levelHolds] using hholds) hmode
    | wheelFailsafe | wheelDegraded =>
      obtain ⟨w, hw⟩ := (someWheelIn_iff t _).mp hholds
      exact nomatch (hwheels w).symm.trans hw

/-- The condition of a level cause lasts where the wheels keep their states and SHUTDOWN is not left. -/
theorem levelHolds_of_kept (hwheels : ∀ w, (wheelOf t w).state = (wheelOf s w).state)
    (hmode : s.mode = .shutdown → t.mode = .shutdown) {l : LevelCause} (h : levelHolds s l = true) :
    levelHolds t l = true := by
  cases l with
  | shutdown => simpa [levelHolds] using hmode (by simpa [levelHolds] using h)
  | wheelFailsafe | wheelDegraded => exact (someWheelIn_congr hwheels _).trans h

theorem marksLawful_of_move (hm : MarksMove i s t) (hmode : s.mode = .shutdown → t.mode = .shutdown ∨
    ∀ p l, markIn (portOf t p).reported l = false) (h : MarksLawful s) : MarksLawful t := by
  intro p l hmark
  have hlasts : s.mode = .shutdown → t.mode = .shutdown := fun hs =>
    (hmode hs).resolve_right fun hclear => nomatch (hclear p l).symm.trans hmark
  cases hm with
  | kept hwheels hreported => exact levelHolds_of_kept hwheels hlasts (h p l (hreported p ▸ hmark))
  | settled hreported =>
    rw [hreported] at hmark
    obtain ⟨hbefore, hholds, -⟩ := (markIn_settledMarks_iff _ l).mp hmark
    by_cases hl : l = .shutdown
    · subst hl
      simpa [levelHolds] using hlasts (by simpa [levelHolds] using h p .shutdown hbefore)
    · exact hholds hl
  | noticed hd d k _ hholds ht =>
    rw [ht, reported_acknowledge] at hmark
    refine levelHolds_of_kept (fun w => by rw [ht, wheelOf, acknowledge_wheels]; rfl) hlasts ?_
    split at hmark
    · next hp => exact hp.2 ▸ hholds
    · exact h p l hmark
  | cleared _ _ hreported => exact nomatch (hreported p l).symm.trans hmark

theorem marksLawful_of_effect (he : Effect i s t) (h : MarksLawful s) : MarksLawful t := by
  refine marksLawful_of_move (marksMove_of_effect he) (fun hs => ?_) h
  obtain hlasts | ⟨-, banks, rfl⟩ := shutdown_of_effect he hs
  · exact .inl hlasts
  · exact .inr (reported_startReset banks)

theorem marksLawful_of_core {moves : Port → Prop} (hc : CoreKept moves s t) (h : MarksLawful s) : MarksLawful t := by
  intro p l hmark
  rw [(hc.ports p).reported] at hmark
  refine levelHolds_of_kept (fun w => by rw [wheelOf, hc.wheels]; rfl) (fun hs => hc.mode.trans hs) (h p l hmark)

end Laws

/-- Settles O58: every effect moves the marks in one of the four ways, and plumbing touches no mark and no wheel. -/
theorem reportedMarksFollowTheirCauses : Obligations.ReportedMarksFollowTheirCauses := by
  unfold Obligations.ReportedMarksFollowTheirCauses
  refine ⟨fun s t hs hstep => ?_, fun i s t p l hexec => ?_⟩
  · exact step_keeps (P := MarksLawful) (fun _ h => h) marksLawful_of_core marksLawful_of_effect hs hstep
  · obtain ⟨u, v, hsu, he, hvt⟩ := course_of_exec hexec
    have hfollow := marksFollow_of_move (marksMove_of_effect he) p l
    have hwheelsBefore : ∀ w, wheelOf u w = wheelOf s w := fun w => by rw [wheelOf, hsu.wheels]; rfl
    have hwheelsAfter : ∀ w, wheelOf t w = wheelOf v w := fun w => by rw [wheelOf, hvt.wheels]; rfl
    have henters : ∀ w, EntersCause s t l w ↔ EntersCause u v l w := fun w => by
      rw [EntersCause, EntersCause, hwheelsBefore, hwheelsAfter]
    have hholds : levelHolds t l = levelHolds v l := by
      cases l <;> simp only [levelHolds, hvt.mode, someWheelIn, hwheelsAfter]
    simp only [henters, hholds, (hvt.ports p).reported]
    simpa only [(hsu.ports p).reported] using hfollow

end Sys2Proof.Proofs
end

section
/-! PROOF. The wire (chapter 7): the request frame of a command reads back (O59), and a falling chip select takes the
response frame (O6). A field of a sealed frame is the field of what was sealed, eight bits lower. -/

namespace Sys2Proof.Proofs

open Sys2Proof.Machine

section Fields

/-- A field that stands above the appended bits. -/
theorem extractLsb'_append_above {m n : Nat} (x : BitVec m) (y : BitVec n) (start len : Nat) :
    (x ++ y).extractLsb' (n + start) len = x.extractLsb' start len := by
  apply BitVec.eq_of_getLsbD_eq
  intro k hk
  rw [BitVec.getLsbD_extractLsb', BitVec.getLsbD_extractLsb', BitVec.getLsbD_append, if_neg (by omega)]
  congr 2
  omega

/-- A field that stands within the appended bits. -/
theorem extractLsb'_append_within {m n : Nat} (x : BitVec m) (y : BitVec n) {start len : Nat} (h : start + len ≤ n) :
    (x ++ y).extractLsb' start len = y.extractLsb' start len := by
  apply BitVec.eq_of_getLsbD_eq
  intro k hk
  rw [BitVec.getLsbD_extractLsb', BitVec.getLsbD_extractLsb', BitVec.getLsbD_append, if_pos (by omega)]

theorem extractLsb'_sealFrame (x : BitVec 24) (start len : Nat) :
    (sealFrame x).extractLsb' (8 + start) len = x.extractLsb' start len := extractLsb'_append_above ..

variable (h : Header) (code : BitVec 5) (data : BitVec 12)

/-- Table 7-2, from the CRC upward: tag, data, mask and code stand where the port reads them. -/
theorem frameTag_requestFrame : frameTag (requestFrame h code data) = h.tag := by
  rw [frameTag, requestFrame]
  refine (extractLsb'_sealFrame _ 0 3).trans ?_
  rw [extractLsb'_append_within _ _ (by decide), BitVec.extractLsb'_eq_self]

theorem frameData_requestFrame : frameData (requestFrame h code data) = data := by
  rw [frameData, requestFrame]
  refine (extractLsb'_sealFrame _ 3 12).trans ?_
  refine (extractLsb'_append_above _ _ 0 12).trans ?_
  rw [extractLsb'_append_within _ _ (by decide), BitVec.extractLsb'_eq_self]

theorem frameMask_requestFrame : frameMask (requestFrame h code data) = h.mask := by
  rw [frameMask, requestFrame]
  refine (extractLsb'_sealFrame _ 15 4).trans ?_
  refine (extractLsb'_append_above _ _ 12 4).trans ?_
  refine (extractLsb'_append_above _ _ 0 4).trans ?_
  rw [extractLsb'_append_within _ _ (by decide), BitVec.extractLsb'_eq_self]

theorem frameCommand_requestFrame : frameCommand (requestFrame h code data) = code := by
  rw [frameCommand, requestFrame]
  refine (extractLsb'_sealFrame _ 19 5).trans ?_
  refine (extractLsb'_append_above _ _ 16 5).trans ?_
  refine (extractLsb'_append_above _ _ 4 5).trans ?_
  refine (extractLsb'_append_above _ _ 0 5).trans ?_
  rw [BitVec.extractLsb'_eq_self]

/-- A request frame is a good frame (R132, R134). -/
theorem isGoodFrame_requestFrame : isGoodFrame (bitsOfWord (requestFrame h code data)) = true := by
  rw [isGoodFrame, length_bitsOfWord, wordOfBits_bitsOfWord, requestFrame, crcMatches_sealFrame]
  rfl

/-- A port reads a request frame by its code and its data (R134). -/
theorem decodeFrame_requestFrame :
    decodeFrame h.port (bitsOfWord (requestFrame h code data)) = commandOfCode h code data := by
  rw [decodeFrame, if_pos (isGoodFrame_requestFrame h code data), wordOfBits_bitsOfWord, commandOfWord,
    frameTag_requestFrame, frameMask_requestFrame, frameCommand_requestFrame, frameData_requestFrame]

end Fields

section ReadBack

/-- A command's request frame exists, is good, and is read as the command j. -/
def ReadsAs (i : Instr) (h : Header) (j : Instr) : Prop :=
  ∃ f, encodeFrame i = some f ∧ isGoodFrame (bitsOfWord f) = true ∧ decodeFrame h.port (bitsOfWord f) = j

variable {h : Header}

theorem readsAs_of_code {i j : Instr} (code : BitVec 5) (data : BitVec 12)
    (he : encodeFrame i = some (requestFrame h code data)) (hj : commandOfCode h code data = j) : ReadsAs i h j :=
  ⟨_, he, isGoodFrame_requestFrame h code data, (decodeFrame_requestFrame h code data).trans hj⟩

theorem modeRequest_of_three_le {data : BitVec 12} (hd : 3#12 ≤ data) :
    modeRequest h data = .modeInvalidRequest h data := by
  have h0 : data ≠ 0#12 := by rintro rfl; exact absurd hd (by decide)
  have h1 : data ≠ 1#12 := by rintro rfl; exact absurd hd (by decide)
  have h2 : data ≠ 2#12 := by rintro rfl; exact absurd hd (by decide)
  rw [modeRequest, if_neg h0, if_neg h1, if_neg h2]

variable (bank spare code : BitVec 4)

/-- The three fields of an overlay request's data (Table 7-5). -/
theorem overlayFields : (bank ++ spare ++ code).extractLsb' 0 4 = code ∧ (bank ++ spare ++ code).extractLsb' 4 4 = spare ∧
    (bank ++ spare ++ code).extractLsb' 8 4 = bank := by
  refine ⟨?_, ?_, ?_⟩
  · rw [extractLsb'_append_within _ _ (by decide), BitVec.extractLsb'_eq_self]
  · refine (extractLsb'_append_above _ _ 0 4).trans ?_
    rw [extractLsb'_append_within _ _ (by decide), BitVec.extractLsb'_eq_self]
  · refine (extractLsb'_append_above _ _ 4 4).trans ?_
    refine (extractLsb'_append_above _ _ 0 4).trans ?_
    rw [BitVec.extractLsb'_eq_self]

theorem overlayRequest_bind (hcode : code ≠ 15#4) :
    overlayRequest h (bank ++ spare ++ code) = .overlayBind h bank spare code := by
  obtain ⟨hlow, hmid, hhigh⟩ := overlayFields bank spare code
  rw [overlayRequest, hlow, hmid, hhigh, if_neg hcode]

theorem overlayRequest_unbind : overlayRequest h (bank ++ spare ++ 15#4) = .overlayUnbind h bank spare := by
  obtain ⟨hlow, hmid, hhigh⟩ := overlayFields bank spare 15#4
  rw [overlayRequest, hlow, hmid, hhigh, if_pos rfl]

/-- A code of 13h to 1Fh is read as unassigned (R136). -/
theorem commandOfCode_unassigned {code : BitVec 5} (hcode : 0x13#5 ≤ code) (data : BitVec 12) :
    commandOfCode h code data = .unassignedCommand h code data := by
  have hnat : 19 ≤ code.toNat := hcode
  unfold commandOfCode
  split
  case h_20 => rfl
  all_goals omega

/-- Settles O59: the request frame of each command, by its code, is read by the same code; only the MODE, overlay and
unassigned rows read their operands to choose the command. -/
theorem requestFramesReadBack : Obligations.RequestFramesReadBack := by
  unfold Obligations.RequestFramesReadBack
  intro i h c hwell hframe
  change ReadsAs i h _
  cases i <;> simp only [frameOf, Option.some.injEq, Prod.mk.injEq, reduceCtorEq] at hframe <;> obtain ⟨rfl, -⟩ := hframe
  case modeInvalidRequest d =>
    exact readsAs_of_code 0x0B d rfl (modeRequest_of_three_le (by simpa [Instr.wellFormed] using hwell))
  case overlayBind bank spare code =>
    exact readsAs_of_code 0x11 _ rfl (overlayRequest_bind _ _ _ (by simpa [Instr.wellFormed] using hwell))
  case overlayUnbind bank spare => exact readsAs_of_code 0x11 _ rfl (overlayRequest_unbind _ _)
  case unassignedCommand code d =>
    exact readsAs_of_code code d rfl (commandOfCode_unassigned (by simpa [Instr.wellFormed] using hwell) d)
  all_goals exact readsAs_of_code _ _ rfl rfl

end ReadBack

section Response

/-- The frame of a response slot carries its fields where Table 7-3 puts them, with a correct CRC (R131, R132). -/
theorem fields_sealFrame_responsePayload (r : Response) :
    (sealFrame (responsePayload r)).extractLsb' 28 4 = statusCode r.status ∧
      (sealFrame (responsePayload r)).extractLsb' 25 3 = r.tag ∧
      (sealFrame (responsePayload r)).getLsbD 24 = r.alert ∧
      (sealFrame (responsePayload r)).extractLsb' 8 16 = r.data := by
  refine ⟨?_, ?_, ?_, ?_⟩
  · refine (extractLsb'_sealFrame _ 20 4).trans ?_
    refine (extractLsb'_append_above _ _ 4 4).trans ?_
    refine (extractLsb'_append_above _ _ 3 4).trans ?_
    refine (extractLsb'_append_above _ _ 0 4).trans ?_
    rw [BitVec.extractLsb'_eq_self]
  · refine (extractLsb'_sealFrame _ 17 3).trans ?_
    refine (extractLsb'_append_above _ _ 1 3).trans ?_
    refine (extractLsb'_append_above _ _ 0 3).trans ?_
    rw [extractLsb'_append_within _ _ (by decide), BitVec.extractLsb'_eq_self]
  · refine (getLsbD_sealFrame_payload _ 16).trans ?_
    rw [responsePayload, BitVec.getLsbD_append, if_neg (by decide), BitVec.getLsbD_append, if_pos (by decide)]
    simp
  · refine (extractLsb'_sealFrame _ 0 16).trans ?_
    rw [responsePayload, extractLsb'_append_within _ _ (by decide), BitVec.extractLsb'_eq_self]

/-- A shifting port sends bit 31 first, and 0 after the 32nd bit (R130). -/
theorem sdoBit_of_shifting {s : State} {p : Port} {f : BitVec 32} (hf : (portOf s p).transaction = .shifting f) :
    (∀ k, k < 32 → sdoBit s p k = some (f.getLsbD (31 - k))) ∧ ∀ k, 32 ≤ k → sdoBit s p k = some false := by
  have hbit : ∀ k, sdoBit s p k = some (f.getMsbD k) := fun k => by rw [sdoBit, hf]
  refine ⟨fun k hk => ?_, fun k hk => ?_⟩
  · rw [hbit, BitVec.getMsbD]
    simp [hk]
  · rw [hbit, BitVec.getMsbD]
    simp [hk]

/-- Settles O6. -/
theorem chipSelectFallTakesTheResponse : Obligations.ChipSelectFallTakesTheResponse := by
  unfold Obligations.ChipSelectFallTakesTheResponse
  intro p s
  refine ⟨_, rfl, fun q hq => portOf_modifyPort_ne _ _ hq, rfl, fun hr => ?_, fun hr => ?_⟩
  · rw [beginTransaction, portOf_modifyPort_self, if_pos hr]
  · have hport : portOf (beginTransaction p s) p = { portOf s p with transaction := .shifting (slotFrame s p) } := by
      rw [beginTransaction, portOf_modifyPort_self, if_neg (by simp [hr])]
    obtain ⟨hstatus, htag, halert, hdata⟩ := fields_sealFrame_responsePayload (portOf s p).response
    obtain ⟨hbits, hafter⟩ := sdoBit_of_shifting (s := beginTransaction p s) (p := p) (congrArg PortState.transaction hport)
    exact ⟨slotFrame s p, hport, hstatus, htag, halert, hdata, crcMatches_sealFrame _, hbits, hafter⟩

end Response

end Sys2Proof.Proofs
end

section
/-! PROOF. Steps and frames (chapters 0 and 7): the step (O1), completion (O2), answers that change nothing (O3), untaken
transactions (O5), the index pointer (O16), and the state after reset (O60). -/

namespace Sys2Proof.Proofs

open Sys2Proof.Machine

/-- Settles O1. -/
theorem stepTakesTheFrontCommand : Obligations.StepTakesTheFrontCommand := by
  unfold Obligations.StepTakesTheFrontCommand
  refine ⟨fun c rest s hq => ?_, fun s hq => ?_⟩
  · rw [step, hq]
  · rw [step, hq]

section Completion

variable {i : Instr} {s t : State}

theorem pending_enterShutdown (s : State) : (enterShutdown s).pending = s.pending := by
  simp only [enterShutdown, changeMode_pending, abortInFlight_pending]
  rfl

theorem pending_begunState (a b c : BitVec 2) (s : State) : (begunState a b c s).pending = s.pending :=
  (coreKept_begunState (moves := fun _ => False) (s := s) a b c).pending

/-- No effect touches the waiting commands (logs 1, 29). -/
theorem pending_of_effect (he : Effect i s t) : t.pending = s.pending := by
  cases he
  case paramStored | latchCleared => simp
  case operationEnded => simp [operationOver]
  case shutDown => exact pending_enterShutdown s
  case resetEnded a b c _ _ => exact pending_begunState a b c s
  case resetEndedLow a b c _ _ => exact (pending_enterShutdown _).trans (pending_begunState a b c s)
  all_goals rfl

theorem pending_of_course (h : Course i s t) : t.pending = s.pending := by
  obtain ⟨u, v, hsu, he, hvt⟩ := h
  exact hvt.pending.trans ((pending_of_effect he).trans hsu.pending)

/-- Every command's meaning is a next state. -/
theorem exec_completes (i : Instr) (s : State) : ∃ t, exec i s = .next t := by
  cases i <;> exact ⟨_, rfl⟩

/-- Settles O2. -/
theorem everyCommandCompletes : Obligations.EveryCommandCompletes := by
  unfold Obligations.EveryCommandCompletes
  intro i s
  obtain ⟨t, ht⟩ := exec_completes i s
  exact ⟨t, ht, pending_of_course (course_of_exec ht)⟩

end Completion

/-- Settles O3: both frames are taken; NOP's owner answers OK, and Table 7-6 admits no unassigned code. -/
theorem nopAndUnassignedCodesOnlyAnswer : Obligations.NopAndUnassignedCodesOnlyAnswer := by
  unfold Obligations.NopAndUnassignedCodesOnlyAnswer
  intro h d s hr
  refine ⟨answersOnly_of_owner_refuses rfl hr rfl rfl (by decide), fun code _ => ?_⟩
  exact answersOnly_of_not_admitted rfl hr (by simp [admitted, roleAdmits]) (by decide)

/-- Settles O5: what a port does not take, it drops. -/
theorem untakenTransactionsOnlyEnd : Obligations.UntakenTransactionsOnlyEnd := by
  unfold Obligations.UntakenTransactionsOnlyEnd
  intro i p s hi hn
  have htakes : takesTransaction s p = false := takesTransaction_of_not_receives hn
  have hdropped : exec i s = .next (dropTransaction s p) := by
    obtain ⟨h, c, hf, rfl⟩ | ⟨bits, rfl⟩ := hi
    · obtain ⟨owner, he⟩ := exec_of_frameOf hf s
      rw [he, takeFrame, if_neg (by simp [htakes])]
    · exact congrArg Host.Outcome.next (if_neg (by simp [htakes]))
  exact ⟨_, hdropped, portOf_modifyPort_self .., fun q hq => portOf_modifyPort_ne _ _ hq, rfl⟩

section Pointer

variable {i : Instr} {s t : State}

theorem pointer_begunState (a b c : BitVec 2) (s : State) (p : Port) :
    (portOf (begunState a b c s) p).pointer = (portOf s p).pointer := by
  refine (((coreKept_begunState (moves := fun _ => False) a b c s).ports p).pointer.resolve_left id).trans ?_
  change (portOf (fixRoles _ _) p).pointer = _
  rw [fixRoles, portOf_modifyPorts]
  rfl

/-- No effect but the start of a reset moves an index pointer (R137). -/
theorem pointer_of_effect (he : Effect i s t) (p : Port) :
    (portOf t p).pointer = (portOf s p).pointer ∨ i = .powerOnReset ∨ i = .resetLineReset := by
  cases he
  case reset hi => exact .inr hi
  case silenced q =>
    change (portOf (silencePort q s) p).pointer = _ ∨ _
    rw [silencePort, portOf_modifyPort]
    split <;> exact .inl rfl
  case staged =>
    rw [modifyStaging, portOf_modifyPort]
    split <;> exact .inl rfl
  case noticed =>
    rw [acknowledge, portOf_modifyPort]
    split <;> exact .inl rfl
  case paramStored | latchCleared => exact .inl (by simp [portOf])
  case operationEnded => exact .inl (by simp [portOf, operationOver])
  case configEntered =>
    change (portOf (stopped s) p).pointer = _ ∨ _
    rw [portOf_stopped]
    exact .inl rfl
  case shutDown =>
    rw [portOf_enterShutdown]
    exact .inl rfl
  case expired | shorted =>
    rw [portOf_withWheel]
    exact .inl rfl
  case resetEnded a b c _ _ => exact .inl (pointer_begunState a b c s p)
  case resetEndedLow a b c _ _ =>
    rw [portOf_enterShutdown]
    exact .inl (pointer_begunState a b c s p)
  all_goals exact .inl rfl

theorem pointer_of_course (h : Course i s t) (p : Port) :
    (portOf t p).pointer = (portOf s p).pointer ∨ PointerMoves i p ∨ i = .powerOnReset ∨ i = .resetLineReset := by
  obtain ⟨u, v, hsu, he, hvt⟩ := h
  obtain hm | hsu' := (hsu.ports p).pointer
  · exact .inr (.inl hm)
  obtain hm | hvt' := (hvt.ports p).pointer
  · exact .inr (.inl hm)
  obtain huv | hreset := pointer_of_effect he p
  · exact .inl (hvt'.trans (huv.trans hsu'))
  · exact .inr (.inr hreset)

/-- A PUT or GET that a receiving port takes leaves its pointer one further (R137), whatever its owner does, if the owner
leaves the pointer alone. -/
theorem pointer_takeFrame {h : Header} {c : Command} {owner : State → Answer} (hr : Receives s h.port)
    (hc : c = .put ∨ c = .get)
    (ho : ∀ u, (portOf (owner u).state h.port).pointer = (portOf u h.port).pointer) :
    (portOf (takeFrame h c owner s) h.port).pointer = (portOf s h.port).pointer + 1 := by
  have hpoints := (takeFrame_pointed (c := c) (owner := owner) (takesTransaction_of_receives hr)).pointer
  rw [if_pos hc] at hpoints
  rw [hpoints, judge]
  split
  · rw [ho, portOf_makeLive_self]
  · rw [refuseWith, portOf_makeLive_self]

/-- PUT at the parameter space leaves the ports alone (R90, R139). -/
theorem ports_putAtPointer (p : Port) (d : BitVec 12) (u : State) : (putAtPointer p d u).state.ports = u.ports := by
  unfold putAtPointer
  split
  · unfold putAtParam
    dsimp only
    split
    · rfl
    · split
      · rfl
      · exact storeParam_ports ..
  · unfold putAtEntry
    split <;> rfl
  · rfl

theorem pointer_getAtPointer (p q : Port) (u : State) :
    (portOf (getAtPointer p u).state q).pointer = (portOf u q).pointer := by
  unfold getAtPointer
  split <;> rfl

end Pointer

/-- Settles O16. -/
theorem indexPointerFollowsItsPortsFrames : Obligations.IndexPointerFollowsItsPortsFrames := by
  unfold Obligations.IndexPointerFollowsItsPortsFrames
  refine ⟨fun h d s hr => ?_, fun i h d s hi hr => ?_, fun i s t p hexec hmoved => ?_, fun i s hi => ?_⟩
  · have ho : selectIndex h.port d (makeLive s h.port) =
        ⟨modifyPort (makeLive s h.port) h.port fun x => { x with pointer := d }, .ok, d.setWidth 16⟩ := rfl
    obtain ⟨hans, hport, hother, hrest⟩ := takeFrame_admitted (c := .select) hr rfl ho ⟨by simp, by simp⟩
    refine ⟨_, rfl, hans, ?_, fun q hq => ?_, hrest⟩
    · have hlive : PortPointed s (modifyPort (makeLive s h.port) h.port fun x => { x with pointer := d }) h.port d := by
        constructor <;> simp
      simpa using hlive.trans hport
    · rw [hother q hq, portOf_modifyPort_ne _ _ hq, portOf_makeLive_ne s hq]
  · obtain hput | hput | rfl := hi
    · exact ⟨_, exec_put_or_mapPut (.inl hput), pointer_takeFrame hr (.inl rfl) (fun u => by rw [portOf, ports_putAtPointer]; rfl)⟩
    · exact ⟨_, exec_put_or_mapPut (.inr hput), pointer_takeFrame hr (.inl rfl) (fun u => by rw [portOf, ports_putAtPointer]; rfl)⟩
    · exact ⟨_, rfl, pointer_takeFrame hr (.inr rfl) (pointer_getAtPointer _ _)⟩
  · exact (pointer_of_course (course_of_exec hexec) p).resolve_left hmoved
  · have hclear : ∀ banks p, (portOf (startReset banks s) p).pointer = 0 := fun banks p => by
      rw [portOf, startReset, PerPort.get_mapWith]
      rfl
    obtain rfl | rfl := hi
    · exact ⟨_, rfl, hclear _⟩
    · exact ⟨_, rfl, hclear _⟩

section Reset

/-- The state after reset is what a power-on reset makes of itself. -/
theorem startReset_reset : startReset State.reset.errors State.reset = State.reset := rfl

theorem portOf_reset (p : Port) : portOf State.reset p = PortState.reset := PerPort.get_same _ p

theorem wheelOf_reset (w : Wheel) : wheelOf State.reset w = WheelRecord.reset := PerWheel.get_same _ w

theorem modeLawful_reset : ModeLawful State.reset :=
  startReset_reset ▸ modeLawful_startReset (s := State.reset) State.reset.errors

theorem mapsLawful_reset : MapsLawful State.reset := by
  refine ⟨ramLawful_reset.1, ramLawful_reset.2, fun k m crc hk => ?_, nofun⟩
  simp [State.reset] at hk

theorem strokesLawful_reset : StrokesLawful State.reset := fun w => by
  rw [wheelOf_reset]
  simp [StrokeLawful, WheelRecord.reset]

theorem driverLawful_reset (w : Wheel) : DriverLawful (wheelOf State.reset w) := by
  rw [wheelOf_reset]
  exact driverLawful_of_stopped (by simp [WheelRecord.reset]) rfl rfl

theorem countsInRange_reset (w : Wheel) : CountsInRange (wheelOf State.reset w) := by
  rw [wheelOf_reset]
  exact countsInRange_of_stopped (by simp [WheelRecord.reset]) (Nat.zero_le _) (Nat.zero_le _) (Nat.zero_le _)

theorem not_wheelMode_reset : ¬ WheelMode State.reset.mode := by simp [WheelMode, State.reset]

/-- Settles O60. -/
theorem resetIsLawful : Obligations.ResetIsLawful := by
  unfold Obligations.ResetIsLawful
  refine ⟨mapsLawful_reset, fun p q _ hn => absurd (by rw [portOf_reset]; rfl) hn, ?_, ?_, strokesLawful_reset, ?_,
    modeLawful_reset, checksStand_of_not_wheelMode not_wheelMode_reset, ?_, ⟨Nat.zero_le _, countsInRange_reset⟩, ?_⟩
  · have hempty : ∀ w src, demandOf State.reset w src = none := modeLawful_reset.demandsEmpty (by simp [State.reset])
    exact ⟨fun _ => hempty, fun w src r hr => nomatch (hempty w src).symm.trans hr⟩
  · refine ⟨paramsInRange_paramDefaults, fun ps crc hp => ?_, nofun⟩
    simp [State.reset] at hp
  · refine previewLawful_of_empty (modeLawful_reset.queuesEmpty not_wheelMode_reset) fun p => ?_
    rw [portOf_reset]
    simp [StagingLawful, PortState.reset, Staging.clear]
  · exact ⟨modeLawful_reset, fun hm => absurd hm not_wheelMode_reset, driverLawful_reset⟩
  · intro p l hmark
    rw [portOf_reset] at hmark
    cases l <;> cases hmark

end Reset

end Sys2Proof.Proofs
end

section
/-! PROOF. Notices and error banks by command (chapter 8): NOTICE, NOTICE_MASK and ALERT, CLEAR_BANK (O25, O26, O27). -/

namespace Sys2Proof.Proofs

open Sys2Proof.Machine

section Waiting

variable {s : State} {p : Port} {c : Cause}

theorem admitted_notice_iff : admitted s p .notice = true ↔ (portOf s p).role ≠ .none := by
  simp [admitted, roleAdmits, modeAdmits]

/-- The numbers of Table 8-1 rise along the list of causes. -/
theorem causeList_sorted : causeList.Pairwise fun c d => causeNum c < causeNum d := by
  simp [causeList, causeNum]

theorem mem_causeList (c : Cause) : c ∈ causeList := by
  cases c with
  | level l => cases l <;> decide
  | edge e => cases e <;> decide

/-- The first element of a sorted list that has a property is the least that has it. -/
theorem find?_eq_some_of_least {α : Type} {l : List α} {test : α → Bool} {num : α → Nat} {a : α}
    (hsorted : l.Pairwise fun x y => num x < num y) (hmem : a ∈ l) (ha : test a = true)
    (hleast : ∀ b, test b = true → num a ≤ num b) : l.find? test = some a := by
  cases hfind : l.find? test with
  | none => exact absurd ha (List.find?_eq_none.mp hfind a hmem)
  | some b =>
    obtain ⟨hb, before, after, rfl, hbefore⟩ := List.find?_eq_some_iff_append.mp hfind
    obtain ha' | ha' := List.mem_append.mp hmem
    · exact absurd ha (by simpa using hbefore a ha')
    · obtain rfl | ha' := List.mem_cons.mp ha'
      · rfl
      · have hlt := List.rel_of_pairwise_cons (List.pairwise_append.mp hsorted).2.1 ha'
        exact absurd (hleast b hb) (not_le.mpr hlt)

/-- The test by which the notice unit looks for a cause (R149). -/
def waits (s : State) (p : Port) (c : Cause) : Bool :=
  isPending s p c &&
    match c with
    | .level l => !markIn (portOf s p).reported l
    | .edge _ => true

theorem waitingCause_eq_find? (s : State) (p : Port) : waitingCause s p = causeList.find? (waits s p) := rfl

theorem waits_iff : waits s p c = true ↔ Waiting s p c := by
  cases c with
  | level l => simp [waits, Waiting]
  | edge e => simp [waits, Waiting]

theorem waitingCause_of_least (hc : Waiting s p c) (hleast : ∀ d, Waiting s p d → causeNum c ≤ causeNum d) :
    waitingCause s p = some c := by
  rw [waitingCause_eq_find?]
  exact find?_eq_some_of_least causeList_sorted (mem_causeList c) (waits_iff.mpr hc) fun d hd => hleast d (waits_iff.mp hd)

theorem waitingCause_of_none (h : ∀ c, ¬ Waiting s p c) : waitingCause s p = none := by
  rw [waitingCause_eq_find?, List.find?_eq_none]
  exact fun c _ hc => h c (waits_iff.mp hc)

/-- A port's becoming LIVE makes no cause wait. -/
theorem waitingCause_makeLive (q : Port) : waitingCause (makeLive s q) p = waitingCause s p := by
  have hwaits : waits (makeLive s q) p = waits s p := by
    funext c
    by_cases hq : p = q
    · subst hq
      cases c with
      | level l => simp only [waits, isPending, portOf_makeLive_self]; rfl
      | edge e => simp only [waits, isPending, portOf_makeLive_self]
    · cases c with
      | level l => simp only [waits, isPending, portOf_makeLive_ne s hq]; rfl
      | edge e => simp only [waits, isPending, portOf_makeLive_ne s hq]
  rw [waitingCause_eq_find?, waitingCause_eq_find?, hwaits]

theorem edgeIn_setEdge (x : EdgeSet) (e f : EdgeCause) (v : Bool) :
    edgeIn (setEdge x e v) f = if e = f then v else edgeIn x f := by
  cases e <;> cases f <;> rfl

theorem portOf_acknowledge_ne {q : Port} (hq : q ≠ p) (c : Cause) : portOf (acknowledge s p c) q = portOf s q := by
  cases c <;> exact portOf_modifyPort_ne _ _ hq

/-- What an acknowledgement leaves of its port: a level cause marked, or an edge cause gone (R149). -/
theorem portOf_acknowledge_self (c : Cause) :
    portOf (acknowledge s p c) p =
      { portOf s p with
        edges := (portOf (acknowledge s p c) p).edges
        reported := (portOf (acknowledge s p c) p).reported } ∧
      (∀ e, edgeIn (portOf (acknowledge s p c) p).edges e = if c = .edge e then false else edgeIn (portOf s p).edges e) ∧
      ∀ l, markIn (portOf (acknowledge s p c) p).reported l = if c = .level l then true else markIn (portOf s p).reported l := by
  cases c with
  | level k =>
    rw [acknowledge, portOf_modifyPort_self]
    refine ⟨rfl, fun e => (if_neg nofun).symm, fun l => ?_⟩
    rw [markIn_setMark]
    exact if_congr (by simp [eq_comm]) rfl rfl
  | edge f =>
    rw [acknowledge, portOf_modifyPort_self]
    refine ⟨rfl, fun e => ?_, fun l => (if_neg nofun).symm⟩
    rw [edgeIn_setEdge]
    exact if_congr (by simp) rfl rfl

end Waiting

section Alert

/-- The ALERT line stands for a pending cause below the mask (R148). -/
theorem alertOf_iff (s : State) (p : Port) :
    alertOf s p = true ↔ ∃ c, isPending s p c = true ∧ causeNum c < (portOf s p).noticeMask := by
  simp only [alertOf, List.any_eq_true, Bool.and_eq_true, decide_eq_true_eq]
  exact ⟨fun ⟨c, _, h⟩ => ⟨c, h⟩, fun ⟨c, h⟩ => ⟨c, mem_causeList c, h⟩⟩

end Alert

/-- Settles O25. -/
theorem noticeReturnsTheMostUrgentCause : Obligations.NoticeReturnsTheMostUrgentCause := by
  unfold Obligations.NoticeReturnsTheMostUrgentCause
  intro h d s hr hrole
  have ha := admitted_notice_iff.mpr hrole
  refine ⟨fun c hc hleast => ?_, fun hnone => ?_⟩
  · have ho : takeNotice h.port (makeLive s h.port) =
        ⟨acknowledge (makeLive s h.port) h.port c, .ok, word16 (causeNum c)⟩ := by
      rw [takeNotice, waitingCause_makeLive, waitingCause_of_least hc hleast]
      rfl
    obtain ⟨hself, hedges, hmarks⟩ := portOf_acknowledge_self (s := makeLive s h.port) (p := h.port) c
    have hlink : KeepsLink s (acknowledge (makeLive s h.port) h.port c) h.port := by
      constructor <;> rw [hself] <;> simp
    obtain ⟨hans, hport, hother, hrest⟩ := takeFrame_admitted hr ha ho hlink
    rw [if_neg (by decide)] at hport
    refine ⟨_, rfl, hans, ?_, ?_, ?_, ?_, fun e => ?_, fun l => ?_, fun q hq => ?_, ?_⟩
    · rw [hport.role, hself, portOf_makeLive_self]
    · rw [hport.pointer, hself, portOf_makeLive_self]
    · rw [hport.staging, hself, portOf_makeLive_self]
    · rw [hport.mask, hself, portOf_makeLive_self]
    · rw [hport.edges, hedges, portOf_makeLive_self]
    · rw [hport.reported, hmarks, portOf_makeLive_self]
    · rw [hother q hq, portOf_acknowledge_ne hq, portOf_makeLive_ne s hq]
    · rw [hrest]
      cases c <;> rfl
  · refine answersOnly_of_owner_refuses_with_data rfl hr ha ?_ (by decide)
    rw [takeNotice, waitingCause_makeLive, waitingCause_of_none hnone]
    rfl

/-- Settles O26. -/
theorem noticeMaskGovernsAlert : Obligations.NoticeMaskGovernsAlert := by
  unfold Obligations.NoticeMaskGovernsAlert
  refine ⟨fun h d s hr hrole => ?_, alertOf_iff⟩
  have ha := admitted_notice_iff.mpr hrole
  refine ⟨fun hd => answersOnly_of_owner_refuses rfl hr ha (if_neg (not_le.mpr hd)) (by decide), fun hd => ?_⟩
  have ho : takeNoticeMask h.port d (makeLive s h.port) =
      ⟨modifyPort (makeLive s h.port) h.port fun x => { x with noticeMask := d.toNat }, .ok, d.setWidth 16⟩ := if_pos hd
  obtain ⟨hans, hport, hother, hrest⟩ := takeFrame_admitted hr ha ho ⟨by simp, by simp⟩
  rw [if_neg (by decide)] at hport
  refine ⟨_, rfl, hans, ?_, ?_, ?_, ?_, ?_, ?_, fun q hq => ?_, hrest⟩
  · rw [hport.mask, portOf_modifyPort_self]
  · rw [hport.role, portOf_modifyPort_self, portOf_makeLive_self]
  · rw [hport.pointer, portOf_modifyPort_self, portOf_makeLive_self]
  · rw [hport.staging, portOf_modifyPort_self, portOf_makeLive_self]
  · rw [hport.edges, portOf_modifyPort_self, portOf_makeLive_self]
  · rw [hport.reported, portOf_modifyPort_self, portOf_makeLive_self]
  · rw [hother q hq, portOf_modifyPort_ne _ _ hq, portOf_makeLive_ne s hq]

section ClearBank

variable {s : State} {p : Port}

theorem admitted_clearBank_iff : admitted s p .clearBank = true ↔ (portOf s p).role = .ride ∧ s.mode ≠ .loading := by
  simp [admitted, roleAdmits, modeAdmits]

/-- The banks by number (Table 8-3). -/
theorem bankIdOf_bankNum (k : BankId) : bankIdOf (bankNum k) = some k := by
  cases k with
  | wheel w => cases w <;> rfl
  | link => rfl
  | store => rfl

theorem bankIdOf_of_five_lt {n : Nat} (h : 5 < n) : bankIdOf n = none := by
  unfold bankIdOf
  split
  case h_7 => rfl
  all_goals omega

theorem portOf_clearLatchOf (k : BankId) (q : Port) : portOf (clearLatchOf k s) q = portOf s q := by
  cases k <;> rfl

theorem errorBank_clearLatchOf (k j : BankId) : errorBank (clearLatchOf k s) j = errorBank s j := by
  cases k <;> rfl

/-- Settles O27. -/
theorem clearBankEmptiesABank : Obligations.ClearBankEmptiesABank := by
  unfold Obligations.ClearBankEmptiesABank
  rintro h d s ⟨hr, hrole⟩ hm
  have ha := admitted_clearBank_iff.mpr ⟨hrole, hm⟩
  refine ⟨fun hd => answersOnly_of_owner_refuses rfl hr ha ?_ (by decide), fun k hk => ?_⟩
  · rw [clearBank, bankIdOf_of_five_lt hd]
  · have ho : clearBank d (makeLive s h.port) =
        ⟨clearLatchOf k (setErrorBank (makeLive s h.port) k ErrorRecord.clear), .ok,
          word16 (errorCode (errorBank s k).code)⟩ := by
      rw [clearBank, hk, bankIdOf_bankNum]
      cases k <;> rfl
    obtain ⟨hans, hport, hother, hrest⟩ := takeFrame_of_ports_kept hr ha (by decide) ho fun q => by
      rw [portOf_clearLatchOf]
      cases k <;> rfl
    refine ⟨_, rfl, hans, hport, hother, fun j => ?_, fun w => ?_, ?_⟩
    · rw [hrest]
      change errorBank (clearLatchOf k _) j = _
      rw [errorBank_clearLatchOf, errorBank_setErrorBank]
      cases j <;> rfl
    · rw [hrest]
      change wheelOf (clearLatchOf k _) w = _
      rw [wheelOf_clearLatchOf]
      cases k <;> rfl
    · rw [hrest]
      cases k <;> rfl

end ClearBank

end Sys2Proof.Proofs
end

section
/-! PROOF. Which edge causes an event adds to which port (R145), as one relation that raises and errors compose; with it the
map store's operations (O28, O29), the overlay banks (O30) and a silent port (O32). -/

namespace Sys2Proof.Proofs

open Sys2Proof.Machine

section Edges

variable {s t u : State} {p q : Port} {A B : EdgeCause → Prop}

theorem portEdged_of_port_eq (h : portOf t q = portOf s q) : PortEdged s t q fun _ => False :=
  ⟨by rw [h], fun e => by rw [h, or_false]⟩

theorem portEdged_trans (hst : PortEdged s t q A) (htu : PortEdged t u q B) : PortEdged s u q fun e => A e ∨ B e := by
  obtain ⟨hport, hadded⟩ := hst
  obtain ⟨hport', hadded'⟩ := htu
  refine ⟨by rw [hport', hport], fun e => ?_⟩
  rw [hadded', hadded, or_assoc]

theorem portEdged_congr (h : PortEdged s t q A) (hAB : ∀ e, A e ↔ B e) : PortEdged s t q B :=
  ⟨h.1, fun e => by rw [h.2, hAB]⟩

/-- Edge causes are judged by the port alone. -/
theorem portEdged_of_ports (hs : portOf t q = portOf s q) (h : PortEdged t u q A) : PortEdged s u q A := by
  obtain ⟨hport, hadded⟩ := h
  exact ⟨by rw [hport, hs], fun e => by rw [hadded, hs]⟩

theorem portEdged_setEdge {e : EdgeCause} (h : portOf t q = { portOf s q with edges := setEdge (portOf s q).edges e true }) :
    PortEdged s t q fun f => f = e :=
  ⟨by rw [h], fun f => by rw [h, edgeIn_setEdge_iff]⟩

theorem portEdged_raiseAt (s : State) (e : EdgeCause) (p q : Port) :
    PortEdged s (raiseAt s e p) q fun f => f = e ∧ p = q := by
  have hport := portOf_raiseAt s e p q
  by_cases hq : q = p
  · rw [if_pos hq] at hport
    exact portEdged_congr (portEdged_setEdge hport) fun f => by simp [hq]
  · rw [if_neg hq] at hport
    exact portEdged_congr (portEdged_of_port_eq hport) fun f => by simp [Ne.symm hq]

/-- The rest of a state after a raise. -/
theorem raiseAt_rest (s : State) (e : EdgeCause) (p : Port) : raiseAt s e p = { s with ports := (raiseAt s e p).ports } := rfl

/-- An admitted frame, not a PUT or a GET, whose owner adds edge causes to the ports and leaves them alone otherwise. -/
theorem takeFrame_edged {h : Header} {c : Command} {owner : State → Answer} (hr : Receives s h.port)
    (ha : admitted s h.port c = true) (hc : ¬ (c = .put ∨ c = .get)) {st : Status} {v : BitVec 16}
    {added : Port → EdgeCause → Prop} (ho : owner (makeLive s h.port) = ⟨u, st, v⟩)
    (hu : ∀ q, PortEdged (makeLive s h.port) u q (added q)) :
    Answered s (takeFrame h c owner s) h st v ∧ SenderEdged s (takeFrame h c owner s) h.port (added h.port) ∧
      (∀ q, q ≠ h.port → PortEdged s (takeFrame h c owner s) q (added q)) ∧
      takeFrame h c owner s = { u with ports := (takeFrame h c owner s).ports } := by
  obtain ⟨hself, hadded⟩ := hu h.port
  rw [portOf_makeLive_self] at hself
  obtain ⟨hans, hport, hother, hrest⟩ := takeFrame_admitted hr ha ho ⟨by rw [hself], by rw [hself]⟩
  rw [if_neg hc] at hport
  refine ⟨hans, ?_, fun q hq => ?_, hrest⟩
  · constructor
    case edges => exact fun e => by rw [hport.edges, hadded, portOf_makeLive_self]
    case role => rw [hport.role, hself]
    case pointer => rw [hport.pointer, hself]
    case staging => rw [hport.staging, hself]
    case mask => rw [hport.mask, hself]
    case reported => rw [hport.reported, hself]
  · obtain ⟨hkept, hmore⟩ := hu q
    rw [portOf_makeLive_ne s hq] at hkept
    refine ⟨by rw [hother q hq, hkept], fun e => ?_⟩
    rw [hother q hq, hmore, portOf_makeLive_ne s hq]

end Edges

section Images

variable {s t u : State} {o : Operation} {good : Bool}

/-- A write of the target's image writes no other image (R153). -/
theorem onlyTargetWritten_setImage (s : State) (c : Capture) (good : Bool) : OnlyTargetWritten s (setImage s c good) c good := by
  cases c with
  | slot k m => exact ⟨rfl, slotImages_setImage_slot s k m good⟩
  | params ps => exact ⟨rfl, rfl⟩

/-- Which images are written shows in the store's images alone. -/
theorem onlyTargetWritten_congr {t u : State} {c : Capture} (himages : u.store.slotImages = t.store.slotImages)
    (hparam : u.store.paramImage = t.store.paramImage) (h : OnlyTargetWritten s t c good) : OnlyTargetWritten s u c good := by
  cases c with
  | slot k m =>
    obtain ⟨hp, hslots⟩ := h
    exact ⟨hparam.trans hp, fun j => by rw [himages]; exact hslots j⟩
  | params ps =>
    obtain ⟨hslots, hp⟩ := h
    exact ⟨himages.trans hslots, hparam.trans hp⟩

theorem store_operationOver (status : StoreStatus) :
    OnlyTargetWritten s (operationOver s o good status) o.capture good ∧
      (operationOver s o good status).store.operation = none ∧ (operationOver s o good status).store.status = status ∧
      (operationOver s o good status).store.load = s.store.load := by
  refine ⟨onlyTargetWritten_congr rfl rfl (onlyTargetWritten_setImage s o.capture good), rfl, rfl, ?_⟩
  simp only [operationOver]
  cases o.capture <;> rfl

theorem portOf_setImage (c : Capture) (q : Port) : portOf (setImage s c good) q = portOf s q := by
  rw [portOf, setImage_ports]
  rfl

theorem rolesDistinct_setImage (c : Capture) (h : RolesDistinct s) : RolesDistinct (setImage s c good) :=
  rolesDistinct_of_role_eq (fun p => by rw [portOf_setImage]) h

theorem portEdged_endOperation (s : State) (o : Operation) (status : StoreStatus) (q : Port) :
    PortEdged s (endOperation s o status) q fun e => e = .storeDone ∧ o.port = q :=
  portEdged_raiseAt { s with store := { s.store with operation := none, status := status } } .storeDone o.port q

/-- An operation that ends with an error adds STORE_DONE at its port and BANK_LOGGED at the RIDE port (R155, R156). -/
theorem portEdged_failed (hd : RolesDistinct s) (code : ErrorCode) (info : Option Nat) (status : StoreStatus) (q : Port) :
    PortEdged s (endOperation (logError (setImage s o.capture good) .store code info) o status) q fun e =>
      (e = .storeDone ∧ o.port = q) ∨ LoggedAt s q e := by
  have hlogged : PortEdged s (logError (setImage s o.capture good) .store code info) q (LoggedAt s q) := by
    refine portEdged_of_ports (portOf_setImage o.capture q) (portEdged_congr
      (portEdged_logError .store code info (rolesDistinct_setImage o.capture hd) q) fun e => ?_)
    rw [LoggedAt, portOf_setImage, LoggedAt]
  exact portEdged_congr (portEdged_trans hlogged (portEdged_endOperation ..)) fun e => or_comm

/-- An operation has ended, its image written, with a status and the errors logged in the STORE bank (R155, R156). -/
structure OperationEnds (s t : State) (o : Operation) (good : Bool) (status : StoreStatus)
    (errors : List (ErrorCode × Option Nat)) : Prop where
  image : OnlyTargetWritten s t o.capture good
  ended : t.store.operation = none
  status : t.store.status = status
  load : t.store.load = s.store.load
  bank : BankTook s t .store errors
  rest : t = { s with ports := t.ports, store := t.store, errors := t.errors }

theorem operationEnds_of_store {status : StoreStatus} {errors : List (ErrorCode × Option Nat)}
    (hstore : t.store = (operationOver s o good status).store) (hbank : BankTook s t .store errors)
    (hrest : t = { s with ports := t.ports, store := t.store, errors := t.errors }) :
    OperationEnds s t o good status errors := by
  obtain ⟨himage, hover, hstatus, hload⟩ := store_operationOver (s := s) (o := o) (good := good) status
  exact ⟨onlyTargetWritten_congr (by rw [hstore]) (by rw [hstore]) himage, by rw [hstore]; exact hover,
    by rw [hstore]; exact hstatus, by rw [hstore]; exact hload, hbank, hrest⟩

theorem operationEnds_logged (s : State) (o : Operation) (good : Bool) (code : ErrorCode) (info : Option Nat)
    (status : StoreStatus) :
    OperationEnds s (endOperation (logError (setImage s o.capture good) .store code info) o status) o good status
      [(code, info)] := by
  refine operationEnds_of_store ?_ (fun j => ?_) ?_
  · rw [endOperation, raiseAt_rest]
    simp [operationOver]
  · refine (bankTook_logError (s := setImage s o.capture good) .store code info j).trans ?_
    cases o.capture <;> rfl
  · rw [endOperation, raiseAt_rest, State.mk.injEq]
    simp

theorem operationEnds_quiet (s : State) (o : Operation) (good : Bool) (status : StoreStatus) :
    OperationEnds s (endOperation (setImage s o.capture good) o status) o good status [] := by
  refine operationEnds_of_store rfl (fun j => ?_) ?_
  · have hkept : errorBank (endOperation (setImage s o.capture good) o status) j = errorBank s j := by
      cases o.capture <;> rfl
    rw [hkept]
    split
    · next hj => rw [hj]; rfl
    · rfl
  · rw [endOperation, raiseAt_rest, State.mk.injEq]
    simp

/-- The same for the frame whose owner ended the operation. -/
theorem operationEnds_of_frame {p : Port} {status : StoreStatus} {errors : List (ErrorCode × Option Nat)}
    (h : OperationEnds (makeLive s p) u o good status errors) (hrest : t = { u with ports := t.ports }) :
    OperationEnds s t o good status errors := by
  obtain ⟨himage, hover, hstatus, hload, hbank, hu⟩ := h
  have hstore : t.store = u.store := by rw [hrest]
  have herrors : ∀ j, errorBank t j = errorBank u j := fun j => by rw [hrest]; cases j <;> rfl
  refine ⟨onlyTargetWritten_congr (t := u) (by rw [hstore]) (by rw [hstore]) ?_, by rw [hstore, hover],
    by rw [hstore, hstatus], by rw [hstore, hload]; rfl, fun j => ?_, ?_⟩
  · cases hc : o.capture <;> rw [hc] at himage <;> exact himage
  · rw [herrors, hbank]
    cases j <;> rfl
  · rw [hrest, hu]
    rfl

end Images

section Programming

variable {s : State} {p : Port}

theorem captureOf_eight (s : State) : captureOf s 8 = some (.params s.params) := rfl

/-- A slot's capture: its own entries, where it is VALID (R155). -/
theorem captureOf_slot (s : State) (k : Fin 8) :
    captureOf s k.val = if (slotOf s k).valid then some (.slot k (slotOf s k).entries) else none := by
  have hk : Fin.ofNat 8 k.val = k := Fin.ext (Nat.mod_eq_of_lt k.isLt)
  rw [captureOf, if_neg (by omega), hk]

theorem startProgram_of_captured {d : BitVec 12} {c : Capture} (hd : d.toNat ≤ 8) (hidle : s.store.status ≠ .busy)
    (hc : captureOf s d.toNat = some c) :
    startProgram p d s =
      ⟨{ s with store := { s.store with operation := some ⟨p, c⟩, status := .busy } }, .accepted, d.setWidth 16⟩ := by
  rw [startProgram, if_neg (not_lt.mpr hd), if_neg hidle, hc]

theorem startProgram_of_not_captured {d : BitVec 12} (hd : d.toNat ≤ 8) (hidle : s.store.status ≠ .busy)
    (hc : captureOf s d.toNat = none) : startProgram p d s = refuseWith s .badArg := by
  rw [startProgram, if_neg (not_lt.mpr hd), if_neg hidle, hc]

theorem captureOf_makeLive (n : Nat) : captureOf (makeLive s p) n = captureOf s n := rfl

/-- Settles O28. -/
theorem storeProgramCapturesItsTarget : Obligations.StoreProgramCapturesItsTarget := by
  unfold Obligations.StoreProgramCapturesItsTarget
  rintro h d s ⟨hr, hrole⟩ hm
  have ha := admitted_storeProgram_iff.mpr ⟨hrole, hm⟩
  have haccepts : ∀ c, d.toNat ≤ 8 → s.store.status ≠ .busy → captureOf s d.toNat = some c →
      ∃ t, exec (.storeProgram h d) s = .next t ∧ Answered s t h .accepted (d.setWidth 16) ∧ PortKept s t h.port ∧
        OthersKept s t h.port ∧
        t = { s with ports := t.ports, store := { s.store with operation := some ⟨h.port, c⟩, status := .busy } } := by
    intro c hd hidle hc
    obtain ⟨hans, hport, hother, hrest⟩ := takeFrame_of_ports_kept hr ha (by decide)
      (startProgram_of_captured (s := makeLive s h.port) (p := h.port) hd hidle hc) fun _ => rfl
    exact ⟨_, rfl, hans, hport, hother, hrest⟩
  refine ⟨fun hd => answersOnly_of_owner_refuses rfl hr ha (if_pos hd) (by decide), fun hd hbusy => ?_,
    fun hidle => ⟨fun hd => ?_, fun k hk => ⟨fun hinvalid => ?_, fun hvalid => ?_⟩⟩⟩
  · refine answersOnly_of_owner_refuses rfl hr ha ?_ (by decide)
    rw [startProgram, if_neg (not_lt.mpr hd), if_pos (show (makeLive s h.port).store.status = .busy from hbusy)]
  · exact haccepts _ hd.le hidle (hd ▸ captureOf_eight s)
  · refine answersOnly_of_owner_refuses rfl hr ha (startProgram_of_not_captured (by omega) hidle ?_) (by decide)
    rw [captureOf_makeLive, hk, captureOf_slot, if_neg (by simp [hinvalid])]
  · refine haccepts _ (by omega) hidle ?_
    rw [hk, captureOf_slot, if_pos hvalid]

theorem admitted_storeAbort_iff :
    admitted s p .storeAbort = true ↔ (portOf s p).role = .ride ∧ OperatingMode s.mode := by
  simp [admitted, roleAdmits, modeAdmits, or_assoc]

theorem loggedAt_makeLive (q : Port) (e : EdgeCause) : LoggedAt (makeLive s p) q e ↔ LoggedAt s q e := by
  have hrole : (portOf (makeLive s p) q).role = (portOf s q).role := by
    rw [makeLive, portOf_modifyPort]
    split <;> rfl
  rw [LoggedAt, LoggedAt, hrole]

/-- Settles O29. -/
theorem storeOperationsEnd : Obligations.StoreOperationsEnd := by
  unfold Obligations.StoreOperationsEnd
  refine ⟨fun h d s ⟨hr, hrole⟩ hop hd => ?_, fun good o s hout hd hflies => ?_⟩
  · have ha := admitted_storeAbort_iff.mpr ⟨hrole, hop⟩
    refine ⟨fun hidle => ?_, fun o hflies => ?_⟩
    · refine answersOnly_of_owner_refuses_with_data rfl hr ha ?_ (by decide)
      rw [abortProgram, show (makeLive s h.port).store.operation = none from hidle]
      rfl
    · have ho : abortProgram (makeLive s h.port) = ⟨abortOperation (makeLive s h.port) o, .ok, 3⟩ := by
        rw [abortProgram, show (makeLive s h.port).store.operation = some o from hflies]
        rfl
      obtain ⟨hans, hsender, hothers, hrest⟩ := takeFrame_edged hr ha (by decide) ho fun q =>
        portEdged_congr (portEdged_failed (rolesDistinct_makeLive hd h.port) _ _ _ q) fun e =>
          or_congr Iff.rfl (loggedAt_makeLive q e)
      obtain ⟨himage, hover, hstatus, hload, hbank, hkept⟩ :=
        operationEnds_of_frame (operationEnds_logged (makeLive s h.port) o false ..) hrest
      exact ⟨_, rfl, hans, himage, hover, hstatus, hload, hbank, hsender, hothers, hkept⟩
  · have hexec : exec (.storeCompletion good) s = .next (completeOperation s o good) := by
      refine congrArg Host.Outcome.next ?_
      rw [unlessInReset_of_over hout, completeInFlight, hflies]
    refine ⟨_, hexec, ?_⟩
    cases good with
    | true =>
      obtain ⟨himage, hover, hstatus, hload, hbank, hkept⟩ := operationEnds_quiet s o true .ok
      rw [completeOperation, if_pos rfl]
      refine ⟨himage, hover, hstatus, hload, hbank, fun q => ?_, hkept⟩
      exact portEdged_congr (portEdged_of_ports (portOf_setImage o.capture q) (portEdged_endOperation ..)) fun e => by simp
    | false =>
      obtain ⟨himage, hover, hstatus, hload, hbank, hkept⟩ :=
        operationEnds_logged s o false .programVerify (some (targetOf o.capture)) .failed
      rw [completeOperation, if_neg (by decide)]
      refine ⟨himage, hover, hstatus, hload, hbank, fun q => ?_, hkept⟩
      exact portEdged_congr (portEdged_failed hd _ _ _ q) fun e => by simp

end Programming

end Sys2Proof.Proofs
end

section
/-! PROOF. The overlay banks by command (O30), and the silence of a port (O32). -/

namespace Sys2Proof.Proofs

open Sys2Proof.Machine

section Overlay

variable {s : State} {b : Fin 2}

theorem overlayBankOf_val (b : Fin 2) : overlayBankOf b.val = some b := by
  match b with
  | 0 => rfl
  | 1 => rfl

theorem overlayBankOf_of_one_lt {n : Nat} (h : 1 < n) : overlayBankOf n = none := by
  rw [overlayBankOf, if_neg (by omega), if_neg (by omega)]

theorem ne_iff_eq_otherBank (b c : Fin 2) : c ≠ b ↔ c = otherBank b := by
  revert b c
  decide

theorem exists_other_iff (P : Fin 2 → Prop) : (∃ c, c ≠ b ∧ P c) ↔ P (otherBank b) := by
  simp only [ne_iff_eq_otherBank, exists_eq_left]

theorem takeBind_of_bad_bank {bank : BitVec 4} (code : BitVec 4) (hb : 1 < bank.toNat) :
    takeBind bank code s = refuseWith s .badArg := by
  rw [takeBind, overlayBankOf_of_one_lt hb]

variable {bank : BitVec 4} {code : BitVec 4}

theorem takeBind_unbind (hb : bank.toNat = b.val) : takeBind bank 15 s = okWith (unbindBank b s) := by
  rw [takeBind, hb, overlayBankOf_val]
  exact if_pos rfl

theorem takeBind_of_bad_code (hb : bank.toNat = b.val) (hlo : 8 ≤ code.toNat) (hhi : code.toNat ≤ 14) :
    takeBind bank code s = refuseWith s .badArg := by
  rw [takeBind, hb, overlayBankOf_val]
  dsimp only
  rw [if_neg (by rintro rfl; exact absurd hhi (by decide)), if_pos hlo]

/-- A code of 0 to 7 binds its slot unless the other bank has it (R94). -/
theorem takeBind_of_slot {k : Fin 8} (hb : bank.toNat = b.val) (hk : code.toNat = k.val) :
    takeBind bank code s =
      if (bankOf s (otherBank b)).binding = some k then refuseWith s .badArg else okWith (bindBank b k s) := by
  have hslot : Fin.ofNat 8 code.toNat = k := by
    rw [hk]
    exact Fin.ext (Nat.mod_eq_of_lt k.isLt)
  have hless := k.isLt
  rw [takeBind, hb, overlayBankOf_val]
  dsimp only
  rw [if_neg (by rintro rfl; simp at hk; omega), if_neg (by omega), hslot]

theorem takeCommit_of_bad_bank {d : BitVec 12} (hd : 1 < d.toNat) : takeCommit d s = refuseWith s .badArg := by
  rw [takeCommit, overlayBankOf_of_one_lt hd]

theorem takeCommit_of_unbound {d : BitVec 12} (hd : d.toNat = b.val) (hn : (bankOf s b).binding = none) :
    takeCommit d s = refuseWith s .badArg := by
  rw [takeCommit, hd, overlayBankOf_val]
  dsimp only
  rw [hn]

theorem takeCommit_of_bound {d : BitVec 12} {k : Fin 8} (hd : d.toNat = b.val) (hk : (bankOf s b).binding = some k) :
    takeCommit d s = okWith (commitBank b k s) (word16 k.val) := by
  rw [takeCommit, hd, overlayBankOf_val]
  dsimp only
  rw [hk]

/-- An admitted overlay frame whose owner leaves the map memories as u has them. -/
theorem takeFrame_overlay {h : Header} {owner : State → Answer} (hr : Receives s h.port)
    (ha : admitted s h.port .overlay = true) {u : State} {v : BitVec 16} (ho : owner (makeLive s h.port) = ⟨u, .ok, v⟩)
    (hu : u = withMap (makeLive s h.port) u.map) :
    Answered s (takeFrame h .overlay owner s) h .ok v ∧ PortKept s (takeFrame h .overlay owner s) h.port ∧
      OthersKept s (takeFrame h .overlay owner s) h.port ∧ (takeFrame h .overlay owner s).map = u.map ∧
      takeFrame h .overlay owner s =
        { s with ports := (takeFrame h .overlay owner s).ports, map := (takeFrame h .overlay owner s).map } := by
  have hports : u.ports = (makeLive s h.port).ports := by rw [hu]; rfl
  obtain ⟨hans, hport, hother, hrest⟩ := takeFrame_of_ports_kept hr ha (by decide) ho fun q => by
    rw [portOf, hports]
    rfl
  have hmap : (takeFrame h .overlay owner s).map = u.map := by rw [hrest]
  refine ⟨hans, hport, hother, hmap, ?_⟩
  rw [hmap]
  conv_lhs => rw [hrest, hu]
  rfl

/-- Settles O30. -/
theorem overlayCommandsBindAndCommit : Obligations.OverlayCommandsBindAndCommit := by
  unfold Obligations.OverlayCommandsBindAndCommit
  rintro h bank spare code d s ⟨hr, hrole⟩ hm
  have ha := admitted_overlay_iff.mpr ⟨hrole, hm⟩
  have hrefused : ∀ {i : Instr} {owner}, exec i s = .next (takeFrame h .overlay owner s) →
      owner (makeLive s h.port) = refuseWith (makeLive s h.port) .badArg → AnswersOnly i s h .badArg 0 :=
    fun he ho => answersOnly_of_owner_refuses he hr ha ho (by decide)
  refine ⟨fun hb => ⟨hrefused rfl (takeBind_of_bad_bank code hb), hrefused rfl (takeBind_of_bad_bank 15 hb)⟩,
    fun b hb => ⟨?_, fun hlo hhi => hrefused rfl (takeBind_of_bad_code hb hlo hhi), fun k hk => ⟨fun hother => ?_, fun hnone => ?_⟩⟩,
    fun hd => hrefused rfl (takeCommit_of_bad_bank hd), fun b hd => ⟨fun hn => hrefused rfl (takeCommit_of_unbound hd hn),
      fun k hk => ?_⟩⟩
  · obtain ⟨hans, hport, hothers, hmap, hrest⟩ := takeFrame_overlay hr ha (takeBind_unbind hb) rfl
    refine ⟨_, rfl, hans, hport, hothers, fun c => ?_, fun j => ?_, hrest⟩
    · rw [bankOf_congr hmap]
      exact bankOf_setBank ..
    · rw [slotOf_congr hmap, if_neg nofun]
      rfl
  · refine hrefused rfl ((takeBind_of_slot hb hk).trans (if_pos ?_))
    exact (exists_other_iff fun c => (bankOf s c).binding = some k).mp hother
  · have ho := (takeBind_of_slot (s := makeLive s h.port) hb hk).trans
      (if_neg (mt (exists_other_iff fun c => (bankOf s c).binding = some k).mpr hnone))
    obtain ⟨hans, hport, hothers, hmap, hrest⟩ := takeFrame_overlay hr ha ho rfl
    refine ⟨_, rfl, hans, hport, hothers, fun c => ?_, fun j => ?_, hrest⟩
    · rw [bankOf_congr hmap]
      exact bankOf_setBank ..
    · rw [slotOf_congr hmap, if_neg nofun]
      rfl
  · obtain ⟨hans, hport, hothers, hmap, hrest⟩ :=
      takeFrame_overlay hr ha (takeCommit_of_bound (s := makeLive s h.port) hd hk) rfl
    refine ⟨_, rfl, hans, hport, hothers, fun c => ?_, fun j => ?_, hrest⟩
    · rw [bankOf_congr hmap]
      exact bankOf_setBank ..
    · rw [slotOf_congr hmap]
      refine (slotOf_setSlot ..).trans (if_congr ?_ rfl rfl)
      rw [Option.some.injEq, eq_comm]

end Overlay

section Silence

variable {s : State} {p : Port}

theorem portEdged_raiseAtOthers (s : State) (e : EdgeCause) (p q : Port) :
    PortEdged s (raiseAtOthers s e p) q fun f => f = e ∧ q ≠ p := by
  have hport : portOf (raiseAtOthers s e p) q =
      if q = p then portOf s q else { portOf s q with edges := setEdge (portOf s q).edges e true } := portOf_modifyPorts ..
  by_cases hq : q = p
  · rw [if_pos hq] at hport
    exact portEdged_congr (portEdged_of_port_eq hport) fun f => by simp [hq]
  · rw [if_neg hq] at hport
    exact portEdged_congr (portEdged_setEdge hport) fun f => by simp [hq]

/-- The state of a silent port before the others are told (R11, R50, R142). -/
theorem portOf_removeOrigin_silencePort (s : State) (p q : Port) :
    portOf (removeOrigin p (silencePort p s)) q =
      if q = p then { portOf s q with link := .silent, linkTimer := none, staging := Staging.clear } else portOf s q :=
  portOf_modifyPort ..

theorem rolesDistinct_silenced (h : RolesDistinct s) (p : Port) : RolesDistinct (removeOrigin p (silencePort p s)) :=
  rolesDistinct_of_role_eq (fun q => by rw [portOf_removeOrigin_silencePort]; split <;> rfl) h

/-- The silence of a port adds LINK_LOST at the others and BANK_LOGGED at the RIDE port (R142, R151). -/
theorem portEdged_becomeSilent (hd : RolesDistinct s) (p q : Port) :
    PortEdged (removeOrigin p (silencePort p s)) (becomeSilent p s) q fun e =>
      (e = .linkLost ∧ q ≠ p) ∨ LoggedAt s q e := by
  have hraised := portEdged_raiseAtOthers (removeOrigin p (silencePort p s)) .linkLost p q
  have hrole : ∀ r, (portOf (raiseAtOthers (removeOrigin p (silencePort p s)) .linkLost p) r).role = (portOf s r).role :=
    fun r => by
      rw [(portEdged_raiseAtOthers _ .linkLost p r).1, portOf_removeOrigin_silencePort]
      split <;> rfl
  refine portEdged_congr (portEdged_trans hraised
    (portEdged_logError .link .linkSilent (some p.num) (rolesDistinct_of_role_eq hrole hd) q)) fun e => ?_
  rw [LoggedAt, hrole, LoggedAt]

theorem exec_linkTimerExpiry_of_due {n : Nat} (hout : s.inReset = false) (htimer : (portOf s p).linkTimer = some n)
    (hdue : n ≤ s.msCount) : exec (.linkTimerExpiry p) s = .next (becomeSilent p s) := by
  refine congrArg Host.Outcome.next ?_
  rw [unlessInReset_of_over hout, expireLink, htimer]
  exact if_pos (decide_eq_true hdue)

/-- Settles O32. -/
theorem linkTimerExpirySilencesAPort : Obligations.LinkTimerExpirySilencesAPort := by
  unfold Obligations.LinkTimerExpirySilencesAPort
  intro p n s hout hd htimer hdue
  have hedged := portEdged_becomeSilent hd p
  refine ⟨_, exec_linkTimerExpiry_of_due hout htimer hdue, ?_, fun e => ?_, fun q hq => ?_, fun w src r => ?_, fun j => ?_, ?_⟩
  · rw [(hedged p).1, portOf_removeOrigin_silencePort, if_pos rfl]
    rfl
  · rw [(hedged p).2 e, portOf_removeOrigin_silencePort, if_pos rfl]
    simp
  · have hkept : portOf (removeOrigin p (silencePort p s)) q = portOf s q := by
      rw [portOf_removeOrigin_silencePort, if_neg hq]
    exact portEdged_of_ports hkept (portEdged_congr (hedged q) fun e => by simp [hq])
  · rw [becomeSilent, demandOf, logError_demands]
    exact demandOf_removeOrigin
  · exact bankTook_logError (s := raiseAtOthers (removeOrigin p (silencePort p s)) .linkLost p) .link _ _ j
  · rw [becomeSilent, logError_rest, State.mk.injEq]
    simp [raiseAtOthers, removeOrigin, silencePort]

end Silence

end Sys2Proof.Proofs
end

section
/-! PROOF. Events: what is not due does nothing (O11), pulses and standstill (O35), the start of a period (O38), the lines
(O34) and the entry to SHUTDOWN (O33). -/

namespace Sys2Proof.Proofs

open Sys2Proof.Machine

section NotDue

variable {i : Instr} {s : State} {w : Wheel}

theorem unlessInReset_eq_self {f : State → State} (hf : s.inReset = false → f s = s) : unlessInReset s f = s := by
  cases hr : s.inReset with
  | true => exact unlessInReset_of_lasting hr
  | false => exact (unlessInReset_of_over hr).trans (hf hr)

/-- An event whose work leaves the state alone leaves it alone during a reset too. -/
theorem exec_eq_self {f : State → State} (he : exec i s = .next (unlessInReset s f)) (hf : s.inReset = false → f s = s) :
    exec i s = .next s := by
  rw [he, unlessInReset_eq_self hf]

/-- Outside a reset an event does its work. -/
theorem exec_eq_work {f : State → State} (hout : s.inReset = false) (he : exec i s = .next (unlessInReset s f)) :
    exec i s = .next (f s) := by
  rw [he, unlessInReset_of_over hout]

/-- While a reset lasts an event of the running device does not come (log 5). -/
theorem exec_of_lasting {f : State → State} (hr : s.inReset = true) (he : exec i s = .next (unlessInReset s f)) :
    exec i s = .next s := by
  rw [he, unlessInReset_of_lasting hr]

theorem hadExpiry_eq_false_iff :
    hadExpiry s w = false ↔ ∀ n, (wheelOf s w).lastExpiry = some n → n < s.timer.periodStart := by
  unfold hadExpiry
  split
  · next n hn => simp [hn]
  · next hn => simp [hn]

/-- A cycle expiry comes where the timer has a phase for it (R54, R55). -/
theorem expiryPhase_eq_some_iff (hout : s.inReset = false) {n : Nat} :
    expiryPhase s w = some n ↔ ∃ d, ExpiryComes s w d ∧ d.phases.get w = n := by
  unfold expiryPhase
  split
  · next d hd =>
    rw [Option.ite_none_right_eq_some, Option.some.injEq, Bool.and_eq_true, Bool.and_eq_true, decide_eq_true_eq,
      Bool.not_eq_true', hadExpiry_eq_false_iff]
    constructor
    · rintro ⟨⟨⟨hruns, hphase⟩, honce⟩, hn⟩
      exact ⟨d, ⟨hout, hruns, hd, hphase, honce⟩, hn⟩
    · rintro ⟨d', ⟨-, hruns, htaken, hphase, honce⟩, hn⟩
      obtain rfl : d = d' := Option.some.inj (hd.symm.trans htaken)
      exact ⟨⟨⟨hruns, hphase⟩, honce⟩, hn⟩
  · next hd =>
    refine ⟨nofun, ?_⟩
    rintro ⟨d, hcomes, -⟩
    exact nomatch hd.symm.trans hcomes.taken

theorem takeExpiry_of_not_comes (hout : s.inReset = false) (hn : ∀ d, ¬ ExpiryComes s w d) (c m : Nat) :
    takeExpiry w c m s = s := by
  have hnone : expiryPhase s w = none := Option.eq_none_iff_forall_ne_some.mpr fun n hsome => by
    obtain ⟨d, hcomes, -⟩ := (expiryPhase_eq_some_iff hout).mp hsome
    exact hn d hcomes
  rw [takeExpiry, hnone]

theorem isDue_eq_false {timer : Option Nat} (h : ∀ n, timer = some n → s.msCount < n) : isDue s timer = false := by
  cases timer with
  | none => rfl
  | some n => exact decide_eq_false (not_le.mpr (h n rfl))

theorem expireDemand_of_not_due {src : Source} (h : ∀ r, demandOf s w src = some r → s.msCount < r.expiry) :
    expireDemand w src s = s := by
  unfold expireDemand
  split
  · next r hr => exact if_neg (not_le.mpr (h r hr))
  · rfl

/-- Settles O11. -/
theorem eventsThatAreNotDueDoNothing : Obligations.EventsThatAreNotDueDoNothing := by
  unfold Obligations.EventsThatAreNotDueDoNothing
  intro s
  refine ⟨fun hr i hi => ?_, fun hr w src p c m good k => ?_, fun w src hahead => ?_, fun p hahead => ?_, fun hahead => ?_,
    fun hzero => ?_, fun hstopped => ?_, fun w c m hnot => ?_, fun w hoff => ?_, fun good hidle => ?_, fun hload => ?_,
    fun k hload => ?_, fun hload => ?_, fun hout a b c => ?_⟩
  · simp only [List.mem_cons, List.not_mem_nil, or_false] at hi
    obtain rfl | rfl | rfl | rfl | rfl | rfl | rfl := hi <;> exact exec_of_lasting hr rfl
  · exact ⟨exec_of_lasting hr rfl, exec_of_lasting hr rfl, exec_of_lasting hr rfl, exec_of_lasting hr rfl,
      exec_of_lasting hr rfl, exec_of_lasting hr rfl⟩
  · exact exec_eq_self rfl fun _ => expireDemand_of_not_due hahead
  · exact exec_eq_self rfl fun _ => if_neg (by rw [isDue_eq_false hahead]; exact Bool.false_ne_true)
  · exact exec_eq_self rfl fun _ => if_neg (by rw [isDue_eq_false hahead]; exact Bool.false_ne_true)
  · exact exec_eq_self rfl fun _ => if_pos hzero
  · exact exec_eq_self rfl fun _ => if_neg (by simp [hstopped])
  · exact exec_eq_self rfl fun hout => takeExpiry_of_not_comes hout hnot _ _
  · exact exec_eq_self rfl fun _ => if_neg (by simp [hoff])
  · exact exec_eq_self rfl fun _ => by rw [completeInFlight, hidle]
  · exact exec_eq_self rfl fun _ => if_neg hload
  · exact exec_eq_self rfl fun _ => if_neg hload
  · exact exec_eq_self rfl fun _ => if_neg hload
  · exact congrArg Host.Outcome.next (if_neg (by simp [hout]))

end NotDue

/-- Settles O35: the sum of accumulator and step splits into advances of 1000 and a rest below it. -/
theorem pulsesAndStandstill : Obligations.PulsesAndStandstill := by
  unfold Obligations.PulsesAndStandstill
  intro s hout
  refine ⟨⟨_, exec_eq_work hout rfl, rfl, rfl, rfl, ?_, ?_, ?_, fun hacc hstep => ?_, rfl⟩, fun n htimer hdue => ?_⟩
  · exact Nat.mod_lt _ (by decide)
  · exact Nat.le_add_right ..
  · change (s.travel.accumulator + param s .travelStep) % 1000 +
      1000 * (s.travel.advances + (s.travel.accumulator + param s .travelStep) / 1000 - s.travel.advances) = _
    omega
  · change s.travel.advances + (s.travel.accumulator + param s .travelStep) / 1000 ≤ _
    omega
  · refine (exec_eq_work hout rfl).trans (congrArg Host.Outcome.next (if_pos ?_))
    rw [htimer]
    exact decide_eq_true hdue

/-- Settles O38. -/
theorem periodStartTakesItsParameters : Obligations.PeriodStartTakesItsParameters := by
  unfold Obligations.PeriodStartTakesItsParameters
  intro s hout hruns
  refine (exec_eq_work hout rfl).trans (congrArg Host.Outcome.next ((if_pos hruns).trans ?_))
  rw [← hruns]
  rfl

section Lines

variable {s : State}

/-- Settles O34. -/
theorem lineChangesActByMode : Obligations.LineChangesActByMode := by
  unfold Obligations.LineChangesActByMode
  intro s
  refine ⟨fun hout hm => ?_, fun h => ?_, rfl, rfl, fun h => ?_⟩
  · have hexec : exec .calEnFall s = .next (changeMode (unbindBanks { s with calEn := false }) .run) := by
      refine congrArg Host.Outcome.next ((unlessInReset_of_over (s := { s with calEn := false }) hout).trans ?_)
      exact if_pos hm
    exact ⟨_, hexec, rfl, bankOf_unbindBanks _, rfl, fun p => portOf_raiseEverywhere .., rfl⟩
  · exact congrArg Host.Outcome.next (unlessInReset_eq_self (s := { s with calEn := false }) fun hr =>
      if_neg (h.resolve_left (Bool.eq_false_iff.mp hr)))
  · exact congrArg Host.Outcome.next (unlessInReset_eq_self (s := { s with safeLow := true }) fun hr =>
      if_pos (h.resolve_left (Bool.eq_false_iff.mp hr)))

end Lines

section Shutdown

variable {s : State}

/-- The state at the entry to SHUTDOWN before the operation in flight is aborted and the mode changes (R126). -/
def halted (s : State) : State := stopLinks (stopTimer (stopped s))

theorem enterShutdown_eq (s : State) : enterShutdown s = changeMode (abortInFlight (halted s)) .shutdown := rfl

theorem portOf_halted (s : State) (p : Port) :
    portOf (halted s) p =
      { portOf s p with
        linkTimer := none
        reported := { (portOf s p).reported with wheelFailsafe := false, wheelDegraded := false } } := by
  rw [halted, stopLinks, portOf_modifyPorts]
  exact congrArg (fun x : PortState => { x with linkTimer := none }) (portOf_stopped s p)

/-- What halting leaves alone. -/
theorem halted_rest (s : State) :
    halted s =
      { s with
        ports := (halted s).ports, demands := (halted s).demands, preview := (halted s).preview, timer := (halted s).timer,
        wheels := (halted s).wheels, map := (halted s).map } := by
  rw [State.mk.injEq]
  simp [halted, stopLinks, stopTimer, stopped, wheelsOff, emptyQueues, emptyDemands]

theorem rolesDistinct_halted (h : RolesDistinct s) : RolesDistinct (halted s) :=
  rolesDistinct_of_role_eq (fun p => by rw [portOf_halted]) h

theorem portEdged_changeMode (s : State) (m : Mode) (q : Port) :
    PortEdged s (changeMode s m) q fun e => e = .modeChanged :=
  portEdged_setEdge (portOf_raiseEverywhere ..)

/-- With no operation in flight the entry to SHUTDOWN raises MODE_CHANGED alone (R129). -/
theorem edgesAdded_enterShutdown_of_idle (ho : s.store.operation = none) (p : Port) :
    EdgesAdded s (enterShutdown s) p fun e => e = .modeChanged := by
  have habort : abortInFlight (halted s) = halted s := by
    rw [abortInFlight, show (halted s).store.operation = none from ho]
  have hedged := (portEdged_changeMode (abortInFlight (halted s)) .shutdown p).2
  rw [habort] at hedged
  intro e
  rw [enterShutdown_eq, habort, hedged e, portOf_halted]

/-- With one in flight its end adds its own causes (R156). -/
theorem edgesAdded_enterShutdown_of_operation (hd : RolesDistinct s) {o : Operation} (ho : s.store.operation = some o)
    (p : Port) :
    EdgesAdded s (enterShutdown s) p fun e =>
      e = .modeChanged ∨ (e = .storeDone ∧ o.port = p) ∨ LoggedAt s p e := by
  have habort : abortInFlight (halted s) = abortOperation (halted s) o := by
    rw [abortInFlight, show (halted s).store.operation = some o from ho]
  have hedged := (portEdged_trans
    (portEdged_failed (o := o) (good := false) (rolesDistinct_halted hd) .programAborted (some (targetOf o.capture)) .aborted p)
    (portEdged_changeMode _ .shutdown p)).2
  intro e
  rw [enterShutdown_eq, habort, abortOperation, hedged e]
  simp only [LoggedAt, portOf_halted]
  tauto

/-- The abort fills the STORE bank; nothing else of an entry to SHUTDOWN logs (R156). -/
theorem bankTook_enterShutdown {o : Operation} (ho : s.store.operation = some o) :
    BankTook s (enterShutdown s) .store [(.programAborted, some (targetOf o.capture))] := by
  have habort : abortInFlight (halted s) = abortOperation (halted s) o := by
    rw [abortInFlight, show (halted s).store.operation = some o from ho]
  intro j
  have hj := (operationEnds_logged (halted s) o false .programAborted (some (targetOf o.capture)) .aborted).bank j
  have hended : (enterShutdown s).errors = (abortOperation (halted s) o).errors := by
    rw [enterShutdown_eq, habort, changeMode_errors]
  have hhalted : (halted s).errors = s.errors := by rw [halted_rest]
  rw [errorBank_congr hended, ← errorBank_congr hhalted, ← errorBank_congr hhalted]
  exact hj

theorem errors_enterShutdown_of_idle (ho : s.store.operation = none) : (enterShutdown s).errors = s.errors := by
  rw [enterShutdown_eq, changeMode_errors, abortInFlight, show (halted s).store.operation = none from ho, halted_rest]

theorem arrivals_enterShutdown (s : State) : (enterShutdown s).preview.arrivals = s.preview.arrivals := by
  rw [enterShutdown_eq, changeMode_preview, abortInFlight_preview]
  rfl

/-- What an entry to SHUTDOWN leaves alone. -/
theorem enterShutdown_rest (s : State) :
    enterShutdown s =
      { s with
        mode := .shutdown, ports := (enterShutdown s).ports, demands := (enterShutdown s).demands,
        preview := (enterShutdown s).preview, timer := (enterShutdown s).timer, wheels := (enterShutdown s).wheels,
        map := (enterShutdown s).map, store := (enterShutdown s).store, errors := (enterShutdown s).errors } := by
  rw [State.mk.injEq]
  simp only [mode_enterShutdown, inReset_enterShutdown, travel_enterShutdown, params_enterShutdown, pending_enterShutdown,
    and_self, and_true, true_and]
  simp only [enterShutdown_eq, changeMode_safeLow, changeMode_calEn, changeMode_msCount, abortInFlight_safeLow,
    abortInFlight_calEn, abortInFlight_msCount]
  rw [halted_rest]
  exact ⟨rfl, rfl, rfl⟩

theorem safeLow_enterShutdown (s : State) : (enterShutdown s).safeLow = s.safeLow := by
  rw [enterShutdown_rest]

theorem modeChanged_enterShutdown (s : State) (p : Port) : (portOf (enterShutdown s) p).edges.modeChanged = true :=
  ((portEdged_changeMode (abortInFlight (halted s)) .shutdown p).2 .modeChanged).mpr (.inr rfl)

theorem safeLow_begunState (a b c : BitVec 2) (s : State) : (begunState a b c s).safeLow = s.safeLow := by
  have hconflict : ∀ p conflict u, (logConflict p conflict u).safeLow = u.safeLow := fun p conflict u => by
    unfold logConflict
    split
    · exact logError_safeLow ..
    · rfl
  exact (hconflict ..).trans (hconflict ..)

theorem exec_resetEnd_of_low (a b c : BitVec 2) (hr : s.inReset = true) (hlow : s.safeLow = true) :
    exec (.resetEnd a b c) s = .next (enterShutdown (begunState a b c s)) :=
  congrArg Host.Outcome.next ((if_pos hr).trans (if_pos ((safeLow_begunState a b c s).trans hlow)))

theorem exec_resetEnd_of_high (a b c : BitVec 2) (hr : s.inReset = true) (hhigh : s.safeLow = false) :
    exec (.resetEnd a b c) s = .next (begunState a b c s) :=
  congrArg Host.Outcome.next ((if_pos hr).trans
    (if_neg (Bool.eq_false_iff.mp ((safeLow_begunState a b c s).trans hhigh))))

/-- SAFE asserted on a running device that is not in SHUTDOWN (R126). -/
theorem exec_safeAsserted_of_up (hout : s.inReset = false) (hm : s.mode ≠ .shutdown) :
    exec .safeAsserted s = .next (enterShutdown { s with safeLow := true }) :=
  congrArg Host.Outcome.next ((unlessInReset_of_over (s := { s with safeLow := true }) hout).trans (if_neg hm))

/-- Settles O33. -/
theorem safeEntersShutdown : Obligations.SafeEntersShutdown := by
  unfold Obligations.SafeEntersShutdown
  refine ⟨fun a b c s hr => ⟨(lineChangesActByMode s).2.2.2.2 (.inl hr), _, exec_resetEnd_of_low a b c hr rfl, rfl, ?_, ?_, ?_,
    demandOf_enterShutdown _, queueOf_enterShutdown _, fun p => ⟨?_, ?_⟩, fun w => ?_⟩, fun s hout hd hm => ?_⟩
  · rw [safeLow_enterShutdown, safeLow_begunState]
  · rw [inReset_enterShutdown, inReset_begunState]
  · rw [timer_enterShutdown]
  · rw [portOf_enterShutdown]
  · exact modeChanged_enterShutdown _ p
  · rw [wheelOf_enterShutdown]
    exact ⟨rfl, rfl⟩
  · refine ⟨_, exec_safeAsserted_of_up hout hm, rfl, safeLow_enterShutdown _, demandOf_enterShutdown _, queueOf_enterShutdown _,
      arrivals_enterShutdown _, bankOf_enterShutdown _, ?_, timer_enterShutdown _, wheelOf_enterShutdown _,
      portOf_enterShutdown _, fun ho => ?_, fun o ho => ?_, enterShutdown_rest _⟩
    · rw [map_enterShutdown]
      rfl
    · exact ⟨store_enterShutdown_of_idle _ ho, errors_enterShutdown_of_idle ho, edgesAdded_enterShutdown_of_idle ho⟩
    · obtain ⟨himage, hended, hstatus, hload⟩ :=
        store_operationOver (s := { s with safeLow := true }) (o := o) (good := false) .aborted
      have hstore := store_enterShutdown_of_operation { s with safeLow := true } o ho
      refine ⟨?_, ?_, ?_, ?_, bankTook_enterShutdown ho, edgesAdded_enterShutdown_of_operation (s := { s with safeLow := true }) hd ho⟩
      · exact onlyTargetWritten_congr (by rw [hstore]) (by rw [hstore]) himage
      · rw [hstore]
        exact hended
      · rw [hstore]
        exact hstatus
      · rw [hstore]
        exact hload

end Shutdown

end Sys2Proof.Proofs
end

section
/-! PROOF. Shorts (O46), the load (O47), the resets (O48) and their end (O49). -/

namespace Sys2Proof.Proofs

open Sys2Proof.Machine

section Banks

variable {s t u : State} {k : BankId}

theorem bankTook_trans {xs ys : List (ErrorCode × Option Nat)} (hst : BankTook s t k xs) (htu : BankTook t u k ys) :
    BankTook s u k (xs ++ ys) := by
  intro j
  rw [htu j]
  split
  · rw [hst k, if_pos rfl, List.foldl_append]
  · next hj => rw [hst j, if_neg hj]

theorem bankTook_of_errors_eq (h : t.errors = s.errors) : BankTook s t k [] := by
  intro j
  rw [errorBank_congr h]
  split
  · next hj => rw [hj]; rfl
  · rfl

theorem bankTook_congr {xs : List (ErrorCode × Option Nat)} (hs : s.errors = t.errors) (h : BankTook t u k xs) :
    BankTook s u k xs := by
  intro j
  rw [h j, errorBank_congr hs, errorBank_congr hs]

end Banks

section Short

variable {s : State} {w : Wheel}

/-- Settled marks belong to the reported marks of a port; its edge causes are as the error left them (R146). -/
theorem portMarked_settleMarks (before : State) {s t : State} {p : Port} {A : EdgeCause → Prop} (h : PortEdged s t p A) :
    portOf (settleMarks before t) p =
        { portOf s p with
          edges := (portOf (settleMarks before t) p).edges
          reported := (portOf (settleMarks before t) p).reported } ∧
      EdgesAdded s (settleMarks before t) p A := by
  obtain ⟨hport, hadded⟩ := h
  have hsettled : portOf (settleMarks before t) p =
      { portOf t p with reported := settledMarks before t (portOf t p).reported } := portOf_modifyPorts ..
  refine ⟨?_, fun e => ?_⟩
  · rw [hsettled, hport]
  · rw [hsettled, ← hadded e]

theorem rolesDistinct_modifyWheel (h : RolesDistinct s) (w : Wheel) (f : WheelRecord → WheelRecord) :
    RolesDistinct (modifyWheel s w f) := h

/-- Settles O46. -/
theorem shortTurnsTheDriverOff : Obligations.ShortTurnsTheDriverOff := by
  unfold Obligations.ShortTurnsTheDriverOff
  intro w s hout hd hdrives
  have hexec : exec (.shortDetected w) s =
      .next (settleMarks s (logError (modifyWheel s w tripped) (.wheel w) .coilShort none)) :=
    (exec_eq_work hout rfl).trans (congrArg Host.Outcome.next (if_pos hdrives))
  refine ⟨_, hexec, fun u => ?_, ?_, fun p => ?_, ?_⟩
  · rw [wheelOf, settleMarks_wheels, logError_wheels]
    refine (wheelOf_modifyWheel ..).trans ?_
    split
    · next hu => rw [hu]; rfl
    · rfl
  · exact bankTook_logError (s := modifyWheel s w tripped) (.wheel w) .coilShort none
  · exact portMarked_settleMarks s (portEdged_logError (s := modifyWheel s w tripped) (.wheel w) .coilShort none hd p)
  · rw [State.mk.injEq]
    simp [modifyWheel]

end Short

section Load

variable {s : State}

theorem goodParamImage_eq_some_iff {x : Image Params} {ps : Params} :
    goodParamImage x = some ps ↔ ∃ crc, x = .stored ps crc ∧ crc16 (paramWords ps) = crc := by
  cases x with
  | invalid => simp [goodParamImage]
  | stored qs crc =>
    simp only [goodParamImage, Option.ite_none_right_eq_some, Option.some.injEq, Image.stored.injEq]
    constructor
    · rintro ⟨hcrc, rfl⟩
      exact ⟨_, ⟨rfl, rfl⟩, hcrc⟩
    · rintro ⟨crc', ⟨rfl, rfl⟩, hcrc⟩
      exact ⟨hcrc, rfl⟩

theorem goodSlotImage_eq_some_iff {x : Image Memory} {m : Memory} :
    goodSlotImage x = some m ↔ ∃ crc, x = .stored m crc ∧ crc16 (memoryWords m) = crc := by
  cases x with
  | invalid => simp [goodSlotImage]
  | stored n crc =>
    simp only [goodSlotImage, Option.ite_none_right_eq_some, Option.some.injEq, Image.stored.injEq]
    constructor
    · rintro ⟨hcrc, rfl⟩
      exact ⟨_, ⟨rfl, rfl⟩, hcrc⟩
    · rintro ⟨crc', ⟨rfl, rfl⟩, hcrc⟩
      exact ⟨hcrc, rfl⟩

/-- The step after a slot is the next slot, and the completion after slot 7 (R154). -/
theorem afterSlot_eq_slot_iff (k n : Fin 8) : afterSlot k = .slot n ↔ n.val = k.val + 1 := by
  unfold afterSlot
  split
  · rw [LoadStep.slot.injEq, Fin.ext_iff, eq_comm]
  · next hlast =>
    have hn := n.isLt
    exact ⟨nofun, fun h => by omega⟩

theorem afterSlot_eq_completion_iff (k : Fin 8) : afterSlot k = .completion ↔ k = 7 := by
  revert k
  decide

/-- A bad image is logged, and the load passes on (R154). -/
theorem logged_loadNext (hd : RolesDistinct s) (l : LoadStep) (code : ErrorCode) (info : Option Nat) :
    BankTook s (logError (loadNext s (some l)) .store code info) .store [(code, info)] ∧
      (∀ p, PortEdged s (logError (loadNext s (some l)) .store code info) p (LoggedAt s p)) ∧
      logError (loadNext s (some l)) .store code info =
        { s with
          ports := (logError (loadNext s (some l)) .store code info).ports
          store := (logError (loadNext s (some l)) .store code info).store
          errors := (logError (loadNext s (some l)) .store code info).errors } := by
  refine ⟨bankTook_logError (s := loadNext s (some l)) .store code info,
    portEdged_logError (s := loadNext s (some l)) .store code info hd, ?_⟩
  rw [State.mk.injEq]
  simp [loadNext]

theorem loadParameters_of_good (hdue : s.store.load = some .parameterBlock) {ps : Params}
    (hgood : goodParamImage s.store.paramImage = some ps) :
    loadParameters s = loadNext { s with params := ps } (some (.slot 0)) := by
  rw [loadParameters, if_pos hdue, hgood]

theorem loadParameters_of_bad (hdue : s.store.load = some .parameterBlock)
    (hbad : goodParamImage s.store.paramImage = none) :
    loadParameters s = logError (loadNext s (some (.slot 0))) .store .paramBad none := by
  rw [loadParameters, if_pos hdue, hbad]

variable {k : Fin 8}

theorem loadSlot_of_good (hdue : s.store.load = some (.slot k)) {m : Memory}
    (hgood : goodSlotImage s.store.slotImages[k] = some m) :
    loadSlot k s = loadNext (setSlot s k ⟨m, true⟩) (some (afterSlot k)) := by
  rw [loadSlot, if_pos hdue, hgood]

theorem loadSlot_of_bad (hdue : s.store.load = some (.slot k)) (hbad : goodSlotImage s.store.slotImages[k] = none) :
    loadSlot k s = logError (loadNext s (some (afterSlot k))) .store .slotBad (some k.val) := by
  rw [loadSlot, if_pos hdue, hbad]

/-- Settles O47: each step by the verdict on its image, and the completion by the mode it finds. -/
theorem loadRunsThroughItsSteps : Obligations.LoadRunsThroughItsSteps := by
  unfold Obligations.LoadRunsThroughItsSteps
  intro s hout hd
  refine ⟨fun hdue => ⟨_, exec_eq_work hout rfl, ?_⟩, fun k hdue => ⟨_, exec_eq_work hout rfl, ?_⟩,
    fun hdue => ⟨_, exec_eq_work hout rfl, ?_⟩⟩
  · cases himage : goodParamImage s.store.paramImage with
    | some ps =>
      rw [loadParameters_of_good hdue himage]
      obtain ⟨crc, hstored, hcrc⟩ := goodParamImage_eq_some_iff.mp himage
      refine ⟨rfl, fun qs crc' hqs _ => ?_, fun hall => absurd hcrc (hall ps crc hstored)⟩
      obtain ⟨rfl, -⟩ := Image.stored.inj (hstored.symm.trans hqs)
      rfl
    | none =>
      rw [loadParameters_of_bad hdue himage]
      refine ⟨by rw [logError_store]; rfl, fun qs crc hqs hcrc => ?_, fun _ => logged_loadNext hd _ _ _⟩
      exact nomatch himage.symm.trans (goodParamImage_eq_some_iff.mpr ⟨crc, hqs, hcrc⟩)
  · have hafter := And.intro (fun n => afterSlot_eq_slot_iff k n) (afterSlot_eq_completion_iff k)
    cases himage : goodSlotImage s.store.slotImages[k] with
    | some m =>
      rw [loadSlot_of_good hdue himage]
      obtain ⟨crc, hstored, hcrc⟩ := goodSlotImage_eq_some_iff.mp himage
      refine ⟨⟨_, rfl, hafter⟩, fun n crc' hn _ => ?_, fun hall => absurd hcrc (hall m crc hstored)⟩
      obtain ⟨rfl, -⟩ := Image.stored.inj (hstored.symm.trans hn)
      exact ⟨fun j => slotOf_setSlot .., rfl, rfl⟩
    | none =>
      rw [loadSlot_of_bad hdue himage]
      refine ⟨⟨_, by rw [logError_store]; rfl, hafter⟩, fun n crc hn hcrc => ?_, fun _ => logged_loadNext hd _ _ _⟩
      exact nomatch himage.symm.trans (goodSlotImage_eq_some_iff.mpr ⟨crc, hn, hcrc⟩)
  · rw [completeLoad, if_pos hdue]
    dsimp only
    by_cases hm : s.mode = .loading
    · rw [if_pos hm]
      exact ⟨rfl, fun _ => ⟨rfl, fun p => portOf_raiseEverywhere .., rfl⟩, fun hs => nomatch hm.symm.trans hs⟩
    · rw [if_neg hm]
      exact ⟨rfl, fun hs => absurd hs hm, fun _ => rfl⟩

end Load

section Resets

variable {s : State}

theorem portOf_startReset (banks : ErrorBanks) (s : State) (p : Port) :
    portOf (startReset banks s) p = { PortState.reset with transaction := resetTransaction (portOf s p).transaction } :=
  PerPort.get_mapWith ..

/-- A reset of either kind, with the banks it leaves (R150). -/
theorem startReset_clauses (banks : ErrorBanks) (s : State) :
    let t := startReset banks s
    (∀ p, portOf t p = { PortState.reset with transaction := (portOf t p).transaction } ∧
        ((portOf s p).transaction = .idle → (portOf t p).transaction = .idle) ∧
        ((portOf s p).transaction ≠ .idle → (portOf t p).transaction = .lost)) ∧
      (s.store.operation = none → t.store.slotImages = s.store.slotImages ∧ t.store.paramImage = s.store.paramImage) ∧
      (∀ o, s.store.operation = some o → OnlyTargetWritten s t o.capture false) := by
  refine ⟨fun p => ?_, fun ho => ?_, fun o ho => ?_⟩
  · rw [portOf_startReset]
    refine ⟨rfl, fun hidle => by rw [hidle]; rfl, fun hbusy => ?_⟩
    cases ht : (portOf s p).transaction with
    | idle => exact absurd ht hbusy
    | shifting f => rfl
    | lost => rfl
  · have himages : imagesAfterReset s = s.store := by rw [imagesAfterReset, ho]
    exact ⟨(congrArg MapStore.slotImages himages :), (congrArg MapStore.paramImage himages :)⟩
  · have himages : imagesAfterReset s = (setImage s o.capture false).store := by rw [imagesAfterReset, ho]
    exact onlyTargetWritten_congr (t := setImage s o.capture false) (congrArg MapStore.slotImages himages :)
      (congrArg MapStore.paramImage himages :) (onlyTargetWritten_setImage s o.capture false)

/-- Settles O48. -/
theorem resetsReturnToLoading : Obligations.ResetsReturnToLoading := by
  unfold Obligations.ResetsReturnToLoading
  intro i s hi
  obtain ⟨banks, hexec, hbanks⟩ : ∃ banks, exec i s = .next (startReset banks s) ∧
      banks = if i = .powerOnReset then State.reset.errors else s.errors := by
    obtain rfl | rfl := hi
    · exact ⟨_, rfl, rfl⟩
    · exact ⟨_, rfl, rfl⟩
  obtain ⟨hports, himages, htarget⟩ := startReset_clauses banks s
  exact ⟨_, hexec, rfl, rfl, hports, wheelOf_startReset banks s, rfl, rfl, rfl, himages, htarget, hbanks, rfl⟩

end Resets

section ResetEnd

variable {s t : State}

/-- A conflict that is logged fills the LINK bank and tells the RIDE port (R135, R151). -/
theorem bankTook_logConflict (p : Port) (conflict : Bool) :
    BankTook s (logConflict p conflict s) .link (if conflict then [(.roleConflict, some p.num)] else []) := by
  cases conflict with
  | true => exact bankTook_logError .link .roleConflict (some p.num)
  | false => exact bankTook_of_errors_eq rfl

theorem portEdged_logConflict (hd : RolesDistinct s) (p : Port) (conflict : Bool) (q : Port) :
    PortEdged s (logConflict p conflict s) q fun e => conflict = true ∧ LoggedAt s q e := by
  cases conflict with
  | true => exact portEdged_congr (portEdged_logError .link .roleConflict (some p.num) hd q) fun e => by simp
  | false => exact portEdged_congr (portEdged_of_port_eq rfl) fun e => by simp

theorem role_logConflict (p : Port) (conflict : Bool) (q : Port) :
    (portOf (logConflict p conflict s) q).role = (portOf s q).role :=
  ((coreKept_logConflict (moves := fun _ => False) (s := s) p conflict).ports q).role

variable (a b c : BitVec 2)

/-- A port's role by the straps in their order: what its strap asks, unless an earlier port has it (R135). -/
theorem assignedRoles_b :
    (assignedRoles a b c).get .b = if roleOfStrap b = (assignedRoles a b c).get .a then .none else roleOfStrap b := rfl

theorem assignedRoles_c :
    (assignedRoles a b c).get .c =
      if roleOfStrap c = (assignedRoles a b c).get .a ∨ roleOfStrap c = (assignedRoles a b c).get .b then .none
      else roleOfStrap c := rfl

theorem exists_before_a (P : Port → Prop) : ¬ ∃ q, q.num < Port.num .a ∧ P q := by
  rintro ⟨q, hq, -⟩
  cases q <;> exact absurd hq (by decide)

theorem exists_before_b (P : Port → Prop) : (∃ q, q.num < Port.num .b ∧ P q) ↔ P .a := by
  refine ⟨?_, fun h => ⟨.a, by decide, h⟩⟩
  rintro ⟨q, hq, hP⟩
  cases q with
  | a => exact hP
  | b | c => exact absurd hq (by decide)

theorem exists_before_c (P : Port → Prop) : (∃ q, q.num < Port.num .c ∧ P q) ↔ P .a ∨ P .b := by
  constructor
  · rintro ⟨q, hq, hP⟩
    cases q with
    | a => exact .inl hP
    | b => exact .inr hP
    | c => exact absurd hq (by decide)
  · rintro (h | h)
    · exact ⟨.a, by decide, h⟩
    · exact ⟨.b, by decide, h⟩

/-- The roles of the three ports from their straps: NONE where an earlier port holds the role asked, else the role asked. -/
theorem assignedRoles_cases (strap : PerPort (BitVec 2)) (p : Port) :
    let got := (assignedRoles strap.a strap.b strap.c).get
    let asked := roleOfStrap (strap.get p)
    ((∃ q, q.num < p.num ∧ got q = asked ∧ asked ≠ .none) → got p = .none) ∧
      ((¬ ∃ q, q.num < p.num ∧ got q = asked ∧ asked ≠ .none) → got p = asked) := by
  intro got asked
  cases p with
  | a => exact ⟨fun h => absurd h (exists_before_a _), fun _ => rfl⟩
  | b =>
    rw [exists_before_b]
    refine ⟨fun h => (assignedRoles_b ..).trans (if_pos h.1.symm), fun h => (assignedRoles_b ..).trans ?_⟩
    split
    · next heq => exact (by_contra fun hn => h ⟨heq.symm, Ne.symm hn⟩)
    · rfl
  | c =>
    rw [exists_before_c]
    refine ⟨fun h => (assignedRoles_c ..).trans (if_pos (h.imp (fun h => h.1.symm) fun h => h.1.symm)),
      fun h => (assignedRoles_c ..).trans ?_⟩
    split
    · next heq =>
      refine by_contra fun hn => h ?_
      exact heq.imp (fun heq => ⟨heq.symm, Ne.symm hn⟩) fun heq => ⟨heq.symm, Ne.symm hn⟩
    · rfl

/-- The state with its roles fixed, before a conflict is logged (R135). -/
def rolesFixed (a b c : BitVec 2) (s : State) : State := fixRoles (assignedRoles a b c) { s with inReset := false }

theorem portOf_rolesFixed (s : State) (p : Port) :
    portOf (rolesFixed a b c s) p = { portOf s p with role := (assignedRoles a b c).get p } := portOf_modifyPorts ..

theorem rolesDistinct_rolesFixed (s : State) : RolesDistinct (rolesFixed a b c s) := fun p q => by
  rw [portOf_rolesFixed, portOf_rolesFixed]
  exact assignedRoles_distinct a b c p q

/-- Port B's or port C's strap names a role that an earlier port holds (R135). -/
abbrev Conflicts (a b c : BitVec 2) : Prop :=
  roleConflict b (assignedRoles a b c).b = true ∨ roleConflict c (assignedRoles a b c).c = true

theorem portEdged_assignRoles (s : State) (p : Port) :
    PortEdged (rolesFixed a b c s) (assignRoles a b c { s with inReset := false }) p fun e =>
      Conflicts a b c ∧ LoggedAt (rolesFixed a b c s) p e := by
  have hd := rolesDistinct_rolesFixed a b c s
  have hb := portEdged_logConflict hd .b (roleConflict b (assignedRoles a b c).b) p
  have hc := portEdged_logConflict (rolesDistinct_of_role_eq (role_logConflict .b (roleConflict b (assignedRoles a b c).b)) hd)
    .c (roleConflict c (assignedRoles a b c).c) p
  refine portEdged_congr (portEdged_trans hb hc) fun e => ?_
  simp only [LoggedAt, role_logConflict]
  rw [Conflicts, or_and_right]

theorem portOf_begunState_response (s : State) (p : Port) :
    portOf (begunState a b c s) p =
      { portOf (assignRoles a b c { s with inReset := false }) p with
        response := ⟨.noRequest, 0, alertOf (assignRoles a b c { s with inReset := false }) p, 0⟩ } := portOf_modifyPorts ..

/-- A port at the end of a reset: its role, its response slot with the ALERT state as it stands, and the causes that a
conflict added at the RIDE port (R130, R135). -/
theorem portOf_begunState (s : State) (p : Port) :
    portOf (begunState a b c s) p =
        { portOf s p with
          role := (assignedRoles a b c).get p
          response := ⟨.noRequest, 0, alertOf (begunState a b c s) p, 0⟩
          edges := (portOf (begunState a b c s) p).edges } ∧
      EdgesAdded s (begunState a b c s) p fun e => LoggedAt (begunState a b c s) p e ∧ Conflicts a b c := by
  obtain ⟨hport, hadded⟩ := portEdged_assignRoles a b c s p
  have hresponse := portOf_begunState_response a b c s p
  have halert : alertOf (begunState a b c s) p = alertOf (assignRoles a b c { s with inReset := false }) p :=
    alertOf_congr rfl rfl (by rw [hresponse]) (by rw [hresponse])
  have hrole : (portOf (begunState a b c s) p).role = (portOf (rolesFixed a b c s) p).role := by
    rw [role_begunState, portOf_rolesFixed]
  refine ⟨?_, fun e => ?_⟩
  · rw [halert, hresponse, hport, portOf_rolesFixed]
  · have hlogged : LoggedAt (begunState a b c s) p e ↔ LoggedAt (rolesFixed a b c s) p e := by
      rw [LoggedAt, LoggedAt, hrole]
    beta_reduce
    rw [hlogged, hresponse, and_comm]
    refine (hadded e).trans ?_
    rw [portOf_rolesFixed]

theorem bankTook_begunState (s : State) :
    BankTook s (begunState a b c s) .link
      ((if roleConflict b (assignedRoles a b c).b then [(.roleConflict, some 2)] else []) ++
        if roleConflict c (assignedRoles a b c).c then [(.roleConflict, some 3)] else []) :=
  bankTook_trans (bankTook_logConflict (s := rolesFixed a b c s) .b _) (bankTook_logConflict .c _)

theorem store_begunState (s : State) :
    (begunState a b c s).store = { s.store with status := .busy, load := some .parameterBlock } := by
  rw [(coreKept_begunState (moves := fun _ => False) a b c s).store]
  rfl

/-- A part of the state that neither an error nor a role belongs to is as the end of the reset found it. -/
theorem assignRoles_part {α : Type} (part : State → α)
    (hpart : ∀ u ports errors, part { u with ports := ports, errors := errors } = part u) (u : State) :
    part (assignRoles a b c u) = part u := by
  have hconflict : ∀ p conflict v, part (logConflict p conflict v) = part v := by
    intro p conflict v
    cases conflict with
    | true => exact (congrArg part (logError_rest ..)).trans (hpart ..)
    | false => rfl
  exact (hconflict ..).trans ((hconflict ..).trans (hpart u _ u.errors))

theorem begunState_rest (s : State) :
    begunState a b c s =
      { s with
        inReset := false, ports := (begunState a b c s).ports, store := (begunState a b c s).store,
        errors := (begunState a b c s).errors } := by
  have hkept : ∀ {α : Type} (part : State → α),
      (∀ u ports errors, part { u with ports := ports, errors := errors } = part u) →
        part (assignRoles a b c { s with inReset := false }) = part { s with inReset := false } :=
    fun part hpart => assignRoles_part a b c part hpart _
  rw [State.mk.injEq, begunState]
  generalize assignRoles a b c { s with inReset := false } = x at hkept ⊢
  exact ⟨hkept (·.inReset) fun _ _ _ => rfl, hkept (·.mode) fun _ _ _ => rfl, hkept (·.safeLow) fun _ _ _ => rfl,
    hkept (·.calEn) fun _ _ _ => rfl, hkept (·.msCount) fun _ _ _ => rfl, rfl, hkept (·.demands) fun _ _ _ => rfl,
    hkept (·.travel) fun _ _ _ => rfl, hkept (·.preview) fun _ _ _ => rfl, hkept (·.timer) fun _ _ _ => rfl,
    hkept (·.wheels) fun _ _ _ => rfl, hkept (·.params) fun _ _ _ => rfl, hkept (·.map) fun _ _ _ => rfl, rfl, rfl,
    hkept (·.pending) fun _ _ _ => rfl⟩

theorem roleConflict_iff (strap : BitVec 2) (r : Role) : roleConflict strap r = true ↔ ¬ r = roleOfStrap strap := by
  rw [roleConflict, bne_iff_ne, ne_comm]

/-- Some port did not get the role asked exactly where port B or port C conflicts; port A gets what it asks. -/
theorem conflicts_iff (strap : PerPort (BitVec 2)) :
    Conflicts strap.a strap.b strap.c ↔
      ∃ q, (assignedRoles strap.a strap.b strap.c).get q ≠ roleOfStrap (strap.get q) := by
  rw [Conflicts, roleConflict_iff, roleConflict_iff]
  constructor
  · rintro (h | h)
    · exact ⟨.b, h⟩
    · exact ⟨.c, h⟩
  · rintro ⟨q, hq⟩
    cases q with
    | a => exact absurd rfl hq
    | b => exact .inl hq
    | c => exact .inr hq

theorem raiseAtRole_withSafe (v : Bool) (s : State) (e : EdgeCause) (r : Role) :
    raiseAtRole { s with safeLow := v } e r = { raiseAtRole s e r with safeLow := v } := by
  have hholder : holder { s with safeLow := v } r = holder s r := rfl
  rw [raiseAtRole, raiseAtRole, hholder]
  cases holder s r <;> rfl

theorem logError_withSafe (v : Bool) (s : State) (k : BankId) (code : ErrorCode) (info : Option Nat) :
    logError { s with safeLow := v } k code info = { logError s k code info with safeLow := v } := by
  refine Eq.trans ?_ (raiseAtRole_withSafe v _ .bankLogged .ride)
  cases k <;> rfl

theorem logConflict_withSafe (v : Bool) (s : State) (p : Port) (conflict : Bool) :
    logConflict p conflict { s with safeLow := v } = { logConflict p conflict s with safeLow := v } := by
  cases conflict with
  | true => exact logError_withSafe ..
  | false => rfl

/-- The level of SAFE has no part in the end of a reset but the entry to SHUTDOWN. -/
theorem begunState_withSafe (v : Bool) (s : State) :
    begunState a b c { s with safeLow := v } = { begunState a b c s with safeLow := v } := by
  have hassigned : assignRoles a b c { { s with safeLow := v } with inReset := false } =
      { assignRoles a b c { s with inReset := false } with safeLow := v } := by
    refine Eq.trans ?_ (logConflict_withSafe v _ .c _)
    exact congrArg (logConflict .c _) (logConflict_withSafe v (rolesFixed a b c s) .b _)
  rw [begunState, hassigned]
  rfl

end ResetEnd

section RolesKept

variable {i : Instr} {s t : State}

/-- No effect but a reset's gives a port another role (R135). -/
theorem role_of_effect (he : Effect i s t) (p : Port) :
    (portOf t p).role = (portOf s p).role ∨ i = .powerOnReset ∨ i = .resetLineReset ∨ ∃ a b c, i = .resetEnd a b c := by
  cases he
  case reset hi => exact .inr (hi.imp_right .inl)
  case resetEnded a b c hi _ | resetEndedLow a b c hi _ => exact .inr (.inr (.inr ⟨a, b, c, hi⟩))
  case silenced q => exact .inl (by rw [portOf_removeOrigin_silencePort]; split <;> rfl)
  case staged =>
    rw [modifyStaging, portOf_modifyPort]
    split <;> exact .inl rfl
  case noticed =>
    rw [acknowledge, portOf_modifyPort]
    split <;> exact .inl rfl
  case paramStored | latchCleared => exact .inl (by simp [portOf])
  case operationEnded => exact .inl (by simp [portOf, operationOver])
  case configEntered => exact .inl (congrArg PortState.role (portOf_stopped s p) :)
  case shutDown => exact .inl (role_enterShutdown s p)
  case expired | shorted => exact .inl (by rw [portOf_withWheel])
  all_goals exact .inl rfl

theorem role_of_course (h : Course i s t) (p : Port) :
    (portOf t p).role = (portOf s p).role ∨ i = .powerOnReset ∨ i = .resetLineReset ∨ ∃ a b c, i = .resetEnd a b c := by
  obtain ⟨u, v, hsu, he, hvt⟩ := h
  rw [(hvt.ports p).role, ← (hsu.ports p).role]
  exact role_of_effect he p

end RolesKept

section Settling

variable {s t : State} {strap : PerPort (BitVec 2)}

/-- The bank entries of the conflicts, in the words of the statement (R135). -/
theorem conflictErrors_eq (strap : BitVec 2) (r : Role) (e : ErrorCode × Option Nat) :
    (if roleConflict strap r then [e] else []) = if r = roleOfStrap strap then [] else [e] := by
  by_cases h : r = roleOfStrap strap
  · rw [if_neg (mt (roleConflict_iff strap r).mp (not_not.mpr h)), if_pos h]
  · rw [if_pos ((roleConflict_iff strap r).mpr h), if_neg h]

/-- What a reset's end leaves whatever the level of SAFE: t is the state begun, but for what an entry to SHUTDOWN does to
neither the roles, the banks, the store nor the response slots. -/
theorem resetEnd_clauses (hrole : ∀ p, (portOf t p).role = (portOf (begunState strap.a strap.b strap.c s) p).role)
    (herrors : t.errors = (begunState strap.a strap.b strap.c s).errors) :
    let asked := fun p => roleOfStrap (strap.get p)
    let got := fun p => (portOf t p).role
    (∀ p, (∃ q, q.num < p.num ∧ got q = asked p ∧ asked p ≠ .none) → got p = .none) ∧
      (∀ p, (¬ ∃ q, q.num < p.num ∧ got q = asked p ∧ asked p ≠ .none) → got p = asked p) ∧
      RolesDistinct t ∧
      BankTook s t .link
        ((if got .b = asked .b then [] else [(.roleConflict, some 2)]) ++
          (if got .c = asked .c then [] else [(.roleConflict, some 3)])) ∧
      (Conflicts strap.a strap.b strap.c ↔ ∃ q, got q ≠ asked q) := by
  have hgot : ∀ p, (portOf t p).role = (assignedRoles strap.a strap.b strap.c).get p := fun p =>
    (hrole p).trans (role_begunState ..)
  simp only [hgot]
  refine ⟨fun p => (assignedRoles_cases strap p).1, fun p => (assignedRoles_cases strap p).2, fun p q => ?_, ?_,
    conflicts_iff strap⟩
  · rw [hgot, hgot]
    exact assignedRoles_distinct _ _ _ p q
  · have htook := bankTook_trans (bankTook_begunState strap.a strap.b strap.c s) (bankTook_of_errors_eq herrors)
    rw [List.append_nil, conflictErrors_eq, conflictErrors_eq] at htook
    exact htook

/-- Settles O49. -/
theorem resetEndAssignsTheRoles : Obligations.ResetEndAssignsTheRoles := by
  unfold Obligations.ResetEndAssignsTheRoles
  refine ⟨fun strap s hr hm ho => ?_, fun i p s t hexec hmoved => (role_of_course (course_of_exec hexec) p).resolve_left hmoved⟩
  have hport := portOf_begunState strap.a strap.b strap.c s
  have hidle : (begunState strap.a strap.b strap.c s).store.operation = none := by rw [store_begunState]; exact ho
  obtain hlow | hlow := Bool.eq_false_or_eq_true s.safeLow
  case inr =>
    obtain ⟨htaken, hfree, hdistinct, hbank, hconflicts⟩ :=
      resetEnd_clauses (s := s) (strap := strap) (fun _ => rfl) rfl
    refine ⟨_, exec_resetEnd_of_high _ _ _ hr hlow, htaken, hfree, hdistinct, hbank, fun p e => ?_,
      inReset_begunState .., store_begunState .., fun p => ?_, fun hs => absurd hs (by simp [hlow]), fun _ => ⟨fun p => ?_, fun p => ?_, begunState_rest ..⟩⟩
    · refine ((hport p).2 e).trans (or_congr Iff.rfl ?_)
      simp [hconflicts, hlow]
    · rw [(hport p).1]
      exact ⟨rfl, rfl, rfl⟩
    · rw [(hport p).1]
    · rw [role_begunState, (hport p).1]
  case inl =>
    obtain ⟨htaken, hfree, hdistinct, hbank, hconflicts⟩ :=
      resetEnd_clauses (s := s) (strap := strap) (role_enterShutdown _) (errors_enterShutdown_of_idle hidle)
    refine ⟨_, exec_resetEnd_of_low _ _ _ hr hlow, htaken, hfree, hdistinct, hbank, fun p e => ?_,
      ?_, ?_, fun p => ?_, fun _ => ⟨rfl, _, exec_resetEnd_of_high _ _ _ hr rfl, ?_⟩,
      fun hs => absurd hs (by simp [hlow])⟩
    · refine (edgesAdded_enterShutdown_of_idle hidle p e).trans ?_
      rw [(hport p).2 e, hconflicts, or_assoc]
      simp only [LoggedAt, role_enterShutdown, hlow, true_and]
    · rw [inReset_enterShutdown, inReset_begunState]
    · rw [store_enterShutdown_of_idle _ hidle, store_begunState]
    · rw [portOf_enterShutdown, (hport p).1]
      exact ⟨rfl, rfl, rfl⟩
    · have hhigh : s.mode ≠ .shutdown := by simp [hm]
      rw [begunState_withSafe]
      refine (exec_safeAsserted_of_up (s := { begunState strap.a strap.b strap.c s with safeLow := false }) ?_ ?_).trans ?_
      · exact inReset_begunState ..
      · exact (congrArg State.mode (begunState_rest ..)).trans_ne hhigh
      · rw [← (safeLow_begunState strap.a strap.b strap.c s).trans hlow]

end Settling

end Sys2Proof.Proofs
end

section
/-! PROOF. Steps 4 to 7 of a cycle expiry: the coil checks and the settling (O40), and the running cycle (O41). -/

namespace Sys2Proof.Proofs

open Sys2Proof.Machine

section Comes

variable {s : State} {w : Wheel} {d : Period}

/-- An expiry that comes is the run of one at the taken phase (R54, R55). -/
theorem exec_cycleExpiry_of_comes (hcomes : ExpiryComes s w d) (code : BitVec 12) (m : Fin 2601) :
    exec (.cycleExpiry w code m) s = .next (runExpiry w code.toNat m.val (d.phases.get w) s) := by
  have hphase : expiryPhase s w = some (d.phases.get w) := (expiryPhase_eq_some_iff hcomes.outside).mpr ⟨d, hcomes, rfl⟩
  refine (exec_eq_work hcomes.outside rfl).trans (congrArg Host.Outcome.next ?_)
  rw [takeExpiry, hphase]

theorem wheelOf_runExpiry_self (s : State) (w : Wheel) (c measured phase : Nat) :
    wheelOf (runExpiry w c measured phase s) w = expiryRecord s w c measured phase :=
  (wheelOf_runExpiry ..).trans (if_pos rfl)

end Comes

section Checks

variable {s : State} {w : Wheel} {c measured phase : Nat}

/-- The deviation that the regulation check finds (R110). -/
theorem deviates_iff (measured target band : Nat) :
    deviates measured target band = true ↔ target + band < measured ∨ measured + band < target := by
  rw [deviates, decide_eq_true_eq]
  omega

theorem openCondition_iff (r : WheelRecord) : openCondition r = true ↔ 200 ≤ r.target ∧ 4 * r.measured < r.target :=
  decide_eq_true_iff

/-- The counts of a running wheel after both checks, in the words of R110 and R111. -/
theorem counts_countedChecks (s : State) (w : Wheel) (c measured phase : Nat) :
    (countedChecks (strokedRecord s w c measured phase)).regulationCount =
        (if Deviating s w measured then
          (if (wheelOf s w).regulationCount = 7 then 0 else (wheelOf s w).regulationCount + 1) else 0) ∧
      (countedChecks (strokedRecord s w c measured phase)).openCount =
        (if OpenCycle s w measured then (wheelOf s w).openCount + 1 else 0) := by
  constructor
  · have hraised : raisedRegulation (strokedRecord s w c measured phase) =
        if Deviating s w measured then (wheelOf s w).regulationCount + 1 else 0 := if_congr (deviates_iff ..) rfl rfl
    have hlogs : logsRegulation (strokedRecord s w c measured phase) = true ↔
        raisedRegulation (strokedRecord s w c measured phase) = 8 := beq_iff_eq
    refine (if_congr hlogs rfl rfl).trans ?_
    rw [hraised]
    by_cases hdev : Deviating s w measured
    · simp only [if_pos hdev, Nat.reduceEqDiff]
    · simp only [if_neg hdev, OfNat.zero_ne_ofNat, if_false]
  · exact if_congr (openCondition_iff _) rfl rfl

/-- The coil of a running wheel is found open where the open-coil check says so (R111). -/
theorem tripsOpen_iff : TripsOpen s w c measured phase ↔ CoilFoundOpen s w measured := by
  refine and_congr (isRunning_iff _) ?_
  have hraised : raisedOpen (strokedRecord s w c measured phase) =
      if OpenCycle s w measured then (wheelOf s w).openCount + 1 else 0 := if_congr (openCondition_iff _) rfl rfl
  rw [findsOpen, decide_eq_true_eq, hraised, Config.openCycles]
  by_cases hopen : OpenCycle s w measured
  · rw [if_pos hopen]
    exact ⟨fun h => ⟨hopen, by omega⟩, fun ⟨_, h⟩ => by omega⟩
  · rw [if_neg hopen]
    exact ⟨fun h => absurd h (by omega), fun h => absurd h.1 hopen⟩

end Checks

section Settling

variable {s : State} {w : Wheel} {r : WheelRecord} {c measured phase : Nat}

theorem latch_settleWheel : (settleWheel s w r).latch = r.latch := by
  by_cases h : isRunning (settledState s.mode r) = true
  · rw [settleWheel_of_running h]
    simp only [runSteps, enterRunning]
    split <;> rfl
  · rw [settleWheel_of_stopped h]
    rfl

/-- A wheel that does not run on keeps the fields of its last running cycle, its driver off (R101, R105). -/
structure Stopped (r r' : WheelRecord) : Prop where
  driver : r'.driver = ⟨false, 0⟩
  previous : r'.previousTarget = none
  arbitrated : r'.arbitrated = r.arbitrated
  mapResult : r'.mapResult = r.mapResult
  target : r'.target = r.target
  counts : r'.regulationCount = r.regulationCount ∧ r'.openCount = r.openCount

theorem stopped_settleWheel (h : ¬ isRunning (settledState s.mode r) = true) : Stopped r (settleWheel s w r) := by
  rw [settleWheel_of_stopped h]
  exact ⟨rfl, rfl, rfl, rfl, rfl, rfl, rfl⟩

theorem stopped_tripped (r : WheelRecord) : Stopped r (tripped r) := ⟨rfl, rfl, rfl, rfl, rfl, rfl, rfl⟩

/-- Steps 1 to 3 and the checks leave latch, arbitration, map result and target (Table 3-2). -/
theorem judgedRecord_kept (s : State) (w : Wheel) (c measured phase : Nat) :
    (judgedRecord s w c measured phase).latch = (wheelOf s w).latch ∧
      (judgedRecord s w c measured phase).arbitrated = (wheelOf s w).arbitrated ∧
      (judgedRecord s w c measured phase).mapResult = (wheelOf s w).mapResult ∧
      (judgedRecord s w c measured phase).target = (wheelOf s w).target := by
  unfold judgedRecord
  split <;> exact ⟨rfl, rfl, rfl, rfl⟩

/-- A wheel settles OFF or FAILSAFE exactly outside RUN and CALIBRATE or with its latch set (Table 5-2). -/
theorem not_isRunning_settledState_iff {m : Mode} :
    ¬ isRunning (settledState m r) = true ↔ ¬ WheelMode m ∨ r.latch = true := by
  constructor
  · intro h
    by_contra hn
    obtain ⟨hm, hlatch⟩ := not_or.mp hn
    refine h ?_
    rw [settledState, if_neg fun hmode => hm fun hw => hw.elim hmode.1 hmode.2, if_neg hlatch]
    cases r.stroke.status <;> rfl
  · rintro h hrun
    obtain ⟨hm, hlatch⟩ := wheelMode_of_settled hrun
    obtain h | h := h
    · exact h hm
    · simp [hlatch] at h

theorem settledState_of_off {m : Mode} (hm : ¬ WheelMode m) : settledState m r = .off := if_pos (not_or.mp hm)

theorem settledState_of_latched {m : Mode} (hm : WheelMode m) (hl : r.latch = true) : settledState m r = .failsafe := by
  rw [settledState, if_neg fun hmode => hm.elim hmode.1 hmode.2, if_pos hl]

/-- The counts of a wheel that was running, whatever it settles into: those of the checks (R110, R111). -/
theorem counts_expiryRecord_of_running (hrun : Running (wheelOf s w)) :
    (expiryRecord s w c measured phase).regulationCount =
        (countedChecks (strokedRecord s w c measured phase)).regulationCount ∧
      (expiryRecord s w c measured phase).openCount = (countedChecks (strokedRecord s w c measured phase)).openCount := by
  have hrunning : isRunning (wheelOf s w).state = true := (isRunning_iff _).mpr hrun
  have hjudged : judgedRecord s w c measured phase = countedChecks (strokedRecord s w c measured phase) :=
    if_pos hrunning
  by_cases hopen : TripsOpen s w c measured phase
  · rw [expiryRecord_of_open hopen, hjudged]
    exact ⟨rfl, rfl⟩
  · rw [expiryRecord_of_not_open hopen]
    by_cases hsettled : isRunning (settledState s.mode (judgedRecord s w c measured phase)) = true
    · obtain ⟨hopens, hregulates⟩ := counts_settleWheel_of_running (w := w) hsettled
      rw [hopens, hregulates, state_judgedRecord, if_pos hrunning, if_pos hrunning, hjudged]
      exact ⟨rfl, rfl⟩
    · rw [← hjudged]
      exact (stopped_settleWheel hsettled).counts

end Settling

/-- Settles O40: a wheel was running or not; the coil is found open or the wheel settles. -/
theorem cycleExpiryChecksTheCoil : Obligations.CycleExpiryChecksTheCoil := by
  unfold Obligations.CycleExpiryChecksTheCoil
  intro w code m d s hcomes
  refine ⟨_, exec_cycleExpiry_of_comes hcomes code m, ?_⟩
  rw [wheelOf_runExpiry_self]
  generalize d.phases.get w = phase
  obtain ⟨hlatch, harbitrated, hmap, htarget⟩ := judgedRecord_kept s w code.toNat m.val phase
  have hsettles : ∀ (hclosed : ¬ CoilFoundOpen s w m.val),
      expiryRecord s w code.toNat m.val phase = settleWheel s w (judgedRecord s w code.toNat m.val phase) :=
    fun hclosed => expiryRecord_of_not_open (mt tripsOpen_iff.mp hclosed)
  have hstops : (¬ WheelMode s.mode ∨ (wheelOf s w).latch = true) →
      ¬ isRunning (settledState s.mode (judgedRecord s w code.toNat m.val phase)) = true := fun h =>
    not_isRunning_settledState_iff.mpr (hlatch ▸ h)
  refine ⟨fun hrun => ?_, fun hidle hstop => ?_, fun hopen => ?_, fun hclosed => ⟨?_, fun hm => ?_, fun hm hl => ?_⟩, fun h => ?_⟩
  · obtain ⟨hregulation, hopens⟩ := counts_expiryRecord_of_running (c := code.toNat) (measured := m.val) (phase := phase) hrun
    obtain ⟨hregulation', hopens'⟩ := counts_countedChecks s w code.toNat m.val phase
    exact ⟨hregulation.trans hregulation', hopens.trans hopens'⟩
  · have hjudged : judgedRecord s w code.toNat m.val phase = strokedRecord s w code.toNat m.val phase :=
      if_neg (mt (isRunning_iff _).mp hidle)
    rw [hsettles fun hopen => hidle hopen.1]
    obtain ⟨hregulation, hopens⟩ := (stopped_settleWheel (w := w) (hstops hstop)).counts
    rw [hregulation, hopens, hjudged]
    exact ⟨rfl, rfl⟩
  · rw [expiryRecord_of_open (tripsOpen_iff.mpr hopen)]
    exact ⟨rfl, rfl⟩
  · rw [hsettles hclosed, latch_settleWheel, hlatch]
  · rw [hsettles hclosed, state_settleWheel, settledState_of_off hm]
  · rw [hsettles hclosed, state_settleWheel, settledState_of_latched hm (hlatch.trans hl)]
  · have hstopped : Stopped (judgedRecord s w code.toNat m.val phase) (expiryRecord s w code.toNat m.val phase) := by
      by_cases hopen : CoilFoundOpen s w m.val
      · rw [expiryRecord_of_open (tripsOpen_iff.mpr hopen)]
        exact stopped_tripped _
      · rw [hsettles hopen]
        exact stopped_settleWheel (hstops (h.resolve_left hopen))
    exact ⟨hstopped.driver, hstopped.previous, hstopped.arbitrated.trans harbitrated, hstopped.mapResult.trans hmap,
      hstopped.target.trans htarget⟩

section Running

variable {s : State} {w : Wheel} {r : WheelRecord}

theorem settledState_of_running {m : Mode} (hm : WheelMode m) (hl : r.latch = false) :
    settledState m r = if r.stroke.status = .ok then .active else .degraded := by
  rw [settledState, if_neg fun hmode => hm.elim hmode.1 hmode.2, if_neg (by simp [hl])]
  cases r.stroke.status <;> rfl

theorem velocityUsed_eq (k : Stroke) : velocityUsed k = if k.status = .ok then k.velocity else 0 := by
  cases h : k.status <;> simp [velocityUsed, h]

/-- The arbitration and the map result of a running cycle (R20, R84). -/
theorem outcome_settleWheel_of_running (h : isRunning (settledState s.mode r) = true) :
    (settleWheel s w r).arbitrated = arbitrate s w r.latched.defLevel ∧
      (settleWheel s w r).mapResult = mapLookup s (arbitrate s w r.latched.defLevel) (velocityUsed r.stroke) := by
  rw [settleWheel_of_running h]
  simp only [runSteps, enterRunning]
  split <;> exact ⟨rfl, rfl⟩

theorem bankBoundTo_eq_some_iff {k : Fin 8} {n : Fin 2} (h : bankBoundTo s k = some n) : (bankOf s n).binding = some k := by
  unfold bankBoundTo at h
  split at h
  · next h0 => cases h; exact h0
  · split at h
    · next h1 => cases h; exact h1
    · cases h

theorem unbound_of_bankBoundTo_eq_none {k : Fin 8} (h : bankBoundTo s k = none) (n : Fin 2) :
    (bankOf s n).binding ≠ some k := by
  unfold bankBoundTo at h
  split at h
  · cases h
  · next h0 =>
    split at h
    · cases h
    · next h1 =>
      match n with
      | 0 => exact h0
      | 1 => exact h1

/-- The slew step as a clamp about the previous target, not limited upward where STABILITY wins (R87). -/
theorem slewed_some (q : Int) (p : Nat) (winner : Winner) (slewUp slewDown : Nat) :
    slewed q (some p) winner slewUp slewDown =
      max ((p : Int) - slewDown) (if winner = .stability then q else min q (p + slewUp)) := by
  simp only [slewed]
  split
  · split <;> omega
  · split <;> split <;> omega

theorem clamped_eq {q : Int} {imin imax : Nat} (h : imin ≤ imax) :
    (clamped q imin imax : Int) = max (imin : Int) (min q (imax : Int)) := by
  unfold clamped
  split
  · omega
  · split <;> omega

/-- Settles O41: the wheel settles into a running state, and each clause reads one step of the cycle. -/
theorem runningCycleSetsTheTarget : Obligations.RunningCycleSetsTheTarget := by
  unfold Obligations.RunningCycleSetsTheTarget
  intro w code m d s hcomes hm hlatch hclosed
  obtain ⟨hkept, -, -, -⟩ := judgedRecord_kept s w code.toNat m.val (d.phases.get w)
  have hsettles := expiryRecord_of_not_open (c := code.toNat) (phase := d.phases.get w) (mt tripsOpen_iff.mp hclosed)
  have hbefore := previousTarget_judgedRecord (s := s) (w := w) (c := code.toNat) (measured := m.val) (phase := d.phases.get w)
  have hran := state_judgedRecord (s := s) (w := w) (c := code.toNat) (measured := m.val) (phase := d.phases.get w)
  generalize judgedRecord s w code.toNat m.val (d.phases.get w) = r at hkept hsettles hbefore hran
  have hstate : settledState s.mode r = if r.stroke.status = .ok then .active else .degraded :=
    settledState_of_running hm (hkept.trans hlatch)
  have hrun : isRunning (settledState s.mode r) = true := by
    rw [hstate]
    split <;> rfl
  obtain ⟨harbitrated, hmap⟩ := outcome_settleWheel_of_running (w := w) hrun
  obtain ⟨htarget, hprevious, hdriver⟩ := driver_settleWheel_of_running (w := w) hrun
  obtain ⟨hopens, hregulates⟩ := counts_settleWheel_of_running (w := w) hrun
  refine ⟨_, slewed (trimmed (settleWheel s w r).mapResult r.latched.trim) r.previousTarget
    (settleWheel s w r).arbitrated.winner r.latched.slewUp r.latched.slewDown, velocityUsed r.stroke,
    exec_cycleExpiry_of_comes hcomes code m, ?_⟩
  rw [wheelOf_runExpiry_self, hsettles]
  dsimp only
  rw [stroke_settleWheel, latched_settleWheel, state_settleWheel, harbitrated, hmap,
    htarget, hprevious, hdriver, hopens, hregulates]
  refine ⟨hstate, velocityUsed_eq _, rfl, rfl, rfl, rfl, fun n => bankBoundTo_eq_some_iff,
    unbound_of_bankBoundTo_eq_none, rfl, fun hnone => ?_, fun n hsome => ?_, fun horder => clamped_eq horder, rfl, rfl,
    fun hidle => ?_⟩
  · rw [hbefore.trans hnone]
    rfl
  · rw [hbefore.trans hsome]
    exact slewed_some ..
  · have hstopped : ¬ isRunning r.state = true := by
      rw [hran, isRunning_iff]
      exact hidle
    exact ⟨if_neg hstopped, if_neg hstopped⟩

end Running

end Sys2Proof.Proofs
end

section
/-! PROOF. A whole cycle expiry (O39): the errors it logs, as a relation that logging composes; its sample; and what it
leaves alone. -/

namespace Sys2Proof.Proofs

open Sys2Proof.Machine

section Logging

variable {s t u : State} {k : BankId}

/-- From s to t errors arrived in one bank, in their order, the RIDE port being told; wheel records apart nothing else
changed (R151). -/
structure Logs (s t : State) (k : BankId) (errors : List (ErrorCode × Option Nat)) : Prop where
  bank : BankTook s t k errors
  port : ∀ p, PortEdged s t p fun e => errors ≠ [] ∧ LoggedAt s p e
  rest : t = { s with ports := t.ports, wheels := t.wheels, errors := t.errors }

theorem logs_nothing (herrors : t.errors = s.errors) (hports : t.ports = s.ports)
    (hrest : t = { s with ports := t.ports, wheels := t.wheels, errors := t.errors }) : Logs s t k [] :=
  ⟨bankTook_of_errors_eq herrors,
    fun p => portEdged_congr (portEdged_of_port_eq (by rw [portOf, hports]; rfl)) fun e => by simp, hrest⟩

theorem logs_refl (s : State) (k : BankId) : Logs s s k [] := logs_nothing rfl rfl rfl

theorem logs_modifyWheel (s : State) (k : BankId) (w : Wheel) (f : WheelRecord → WheelRecord) :
    Logs s (modifyWheel s w f) k [] := logs_nothing rfl rfl rfl

theorem logs_logError (hd : RolesDistinct s) (k : BankId) (code : ErrorCode) (info : Option Nat) :
    Logs s (logError s k code info) k [(code, info)] := by
  refine ⟨bankTook_logError k code info, fun p => portEdged_congr (portEdged_logError k code info hd p) fun e => by simp, ?_⟩
  rw [logError_rest]

variable {xs ys : List (ErrorCode × Option Nat)}

theorem role_of_logs (h : Logs s t k xs) (p : Port) : (portOf t p).role = (portOf s p).role := by rw [(h.port p).1]

theorem rolesDistinct_of_logs (h : Logs s t k xs) (hd : RolesDistinct s) : RolesDistinct t :=
  rolesDistinct_of_role_eq (role_of_logs h) hd

theorem logs_trans (hst : Logs s t k xs) (htu : Logs t u k ys) : Logs s u k (xs ++ ys) := by
  refine ⟨bankTook_trans hst.bank htu.bank, fun p => ?_, ?_⟩
  · refine portEdged_congr (portEdged_trans (hst.port p) (htu.port p)) fun e => ?_
    have hlogged : LoggedAt t p e ↔ LoggedAt s p e := by rw [LoggedAt, LoggedAt, role_of_logs hst]
    rw [hlogged, ← or_and_right, ne_eq, ne_eq, ne_eq, List.append_eq_nil_iff, not_and_or]
  · calc u = { t with ports := u.ports, wheels := u.wheels, errors := u.errors } := htu.rest
      _ = { s with ports := u.ports, wheels := u.wheels, errors := u.errors } := by rw [hst.rest]

/-- An error that is logged under a condition (R151). -/
theorem logs_ite (hd : RolesDistinct s) (k : BankId) (code : ErrorCode) (info : Option Nat) {b : Bool} {P : Prop}
    [Decidable P] (h : b = true ↔ P) :
    Logs s (if b then logError s k code info else s) k (if P then [(code, info)] else []) := by
  by_cases hP : P
  · rw [if_pos (h.mpr hP), if_pos hP]
    exact logs_logError hd k code info
  · rw [if_neg (mt h.mp hP), if_neg hP]
    exact logs_refl s k

end Logging

section Errors

variable {s : State} {w : Wheel} {c measured phase : Nat}

theorem codeInRange_iff : codeInRange s c = true ↔ ¬ OutOfRange s c := by
  rw [codeInRange, Bool.and_eq_true, decide_eq_true_eq, decide_eq_true_eq, not_or, not_lt, not_lt]

theorem losesSensor_iff (k : Stroke) : losesSensor k = true ↔ k.status = .ok ∧ k.bad = 2 := by
  simp [losesSensor, Config.lossSamples]

/-- The errors of step 2: STROKE_RANGE, then STROKE_LOST (R61, R62). -/
theorem logs_logSample (hd : RolesDistinct s) (w : Wheel) (c : Nat) (k : Stroke) :
    Logs s (logSample s w c k) (.wheel w)
      ((if OutOfRange s c then [(.strokeRange, some c)] else []) ++
        if OutOfRange s c ∧ k.status = .ok ∧ k.bad = 2 then [(.strokeLost, none)] else []) := by
  unfold logSample
  split
  · next hin =>
    have hrange : ¬ OutOfRange s c := codeInRange_iff.mp hin
    rw [if_neg hrange, if_neg fun h => hrange h.1]
    exact logs_refl s _
  · next hout =>
    have hrange : OutOfRange s c := by_contra fun h => hout (codeInRange_iff.mpr h)
    have hranged := logs_logError hd (.wheel w) .strokeRange (some c)
    rw [if_pos hrange]
    exact logs_trans hranged
      (logs_ite (rolesDistinct_of_logs hranged hd) _ _ _ ((losesSensor_iff k).trans (and_iff_right hrange).symm))

theorem logsRegulation_iff : logsRegulation (strokedRecord s w c measured phase) = true ↔
    Deviating s w measured ∧ (wheelOf s w).regulationCount = 7 := by
  have hraised : raisedRegulation (strokedRecord s w c measured phase) =
      if Deviating s w measured then (wheelOf s w).regulationCount + 1 else 0 := if_congr (deviates_iff ..) rfl rfl
  rw [logsRegulation, beq_iff_eq, hraised, Config.regulationCycles]
  by_cases hdev : Deviating s w measured
  · rw [if_pos hdev]
    exact ⟨fun h => ⟨hdev, by omega⟩, fun ⟨_, h⟩ => by omega⟩
  · rw [if_neg hdev]
    exact ⟨fun h => absurd h (by omega), fun h => absurd h.1 hdev⟩

/-- The state of an expiry before the reported marks are settled (R57). -/
def expired (s : State) (w : Wheel) (c measured phase : Nat) : State :=
  let sampled := logSample { s with timer := { s.timer with counter := phase } } w c (wheelOf s w).stroke
  if isRunning (wheelOf s w).state then checkedCycle sampled w (strokedRecord s w c measured phase)
  else uncheckedCycle sampled w (strokedRecord s w c measured phase)

theorem runExpiry_eq (s : State) (w : Wheel) (c measured phase : Nat) :
    runExpiry w c measured phase s = settleMarks s (expired s w c measured phase) := rfl

/-- The errors of the coil checks of a running wheel, REGULATION before COIL_OPEN (R110, R111). -/
theorem logs_checkedCycle {x : State} (hd : RolesDistinct x) (hrun : Running (wheelOf s w)) :
    Logs x (checkedCycle x w (strokedRecord s w c measured phase)) (.wheel w)
      ((if Running (wheelOf s w) ∧ Deviating s w measured ∧ (wheelOf s w).regulationCount = 7 then [(.regulation, none)]
          else []) ++
        if CoilFoundOpen s w measured then [(.coilOpen, none)] else []) := by
  have hregulation : Logs x (logRegulation x w (strokedRecord s w c measured phase)) (.wheel w) _ :=
    logs_ite hd (.wheel w) .regulation none (logsRegulation_iff.trans (and_iff_right hrun).symm)
  unfold checkedCycle
  refine logs_trans hregulation ?_
  dsimp only
  split
  · next hopen =>
    rw [if_pos (tripsOpen_iff.mp ⟨(isRunning_iff _).mpr hrun, hopen⟩)]
    have hwheel := logs_modifyWheel (logRegulation x w (strokedRecord s w c measured phase)) (.wheel w) w fun _ =>
      tripped (countedChecks (strokedRecord s w c measured phase))
    exact logs_trans hwheel
      (logs_logError (rolesDistinct_of_logs hwheel (rolesDistinct_of_logs hregulation hd)) (.wheel w) .coilOpen none)
  · next hclosed =>
    rw [if_neg fun hfound => hclosed (tripsOpen_iff.mpr hfound).2]
    exact logs_modifyWheel ..

/-- All the errors of an expiry (R61, R62, R110, R111), from the state whose counter stands at the phase. -/
theorem logs_expired (hd : RolesDistinct s) (w : Wheel) (c measured phase : Nat) :
    Logs { s with timer := { s.timer with counter := phase } } (expired s w c measured phase) (.wheel w)
      (expiryErrors s w c measured) := by
  have hsample := logs_logSample (s := { s with timer := { s.timer with counter := phase } }) hd w c (wheelOf s w).stroke
  unfold expired expiryErrors
  rw [List.append_assoc]
  refine logs_trans hsample ?_
  by_cases hrun : Running (wheelOf s w)
  · rw [if_pos ((isRunning_iff _).mpr hrun)]
    exact logs_checkedCycle (rolesDistinct_of_logs hsample hd) hrun
  · rw [if_neg (mt (isRunning_iff _).mp hrun), if_neg fun h => hrun h.1, if_neg fun h => hrun h.1]
    exact logs_modifyWheel ..

end Errors

section Sample

variable {s : State} {w : Wheel} {k : Stroke} {c n kFilt : Nat} {irregular : Bool}

/-- An out-of-range sample gives no position and no velocity (R61, R69). -/
theorem strokeAfter_of_out (h : OutOfRange s c) :
    strokeAfter s w c n irregular kFilt k = discardIrregular irregular (outOfRangeSample k) := by
  have hout : codeInRange s c = false := Bool.eq_false_iff.mpr fun hin => codeInRange_iff.mp hin h
  simp only [strokeAfter, judgedSample, hout, Bool.false_and, Bool.false_eq_true, if_false]

/-- The discard touches the last position alone, at an irregular interval with the sensor OK (R71). -/
theorem discardIrregular_eq (irregular : Bool) (j : Stroke) :
    discardIrregular irregular j =
      { j with lastPosition := if irregular = true ∧ j.status = .ok then none else j.lastPosition } := by
  by_cases h : irregular = true ∧ j.status = .ok
  · rw [discardIrregular, if_pos (by simp [h]), if_pos h]
  · rw [discardIrregular, if_neg (by simpa using h), if_neg h]

/-- An in-range sample that finds or makes the sensor OK goes through the velocity stage (R66-R68). -/
theorem strokeAfter_of_in (h : ¬ OutOfRange s c) (hok : (inRangeSample k c).status = .ok) :
    strokeAfter s w c n irregular kFilt k =
      velocityStage (discardIrregular irregular (inRangeSample k c)) (strokePosition s w c) n kFilt := by
  have hin : codeInRange s c = true := codeInRange_iff.mpr h
  simp only [strokeAfter, judgedSample, hin, if_true, hok, beq_self_eq_true, Bool.and_self]

theorem inRangeSample_of_ok (h : k.status = .ok) : inRangeSample k c = { k with bad := 0, lastCode := c } := by
  simp only [inRangeSample, h]

theorem inRangeSample_of_counting (h : k.status = .lost) (hgood : k.good < 15) :
    inRangeSample k c = { k with bad := 0, good := k.good + 1, lastCode := c } := by
  simp only [inRangeSample, h, Config.recoverySamples, if_neg (show ¬ 16 ≤ k.good + 1 by omega)]

theorem inRangeSample_of_back (h : k.status = .lost) (hgood : 15 ≤ k.good) :
    inRangeSample k c = { k with bad := 0, lastCode := c, status := .ok, good := 0, lastPosition := none } := by
  simp only [inRangeSample, h, Config.recoverySamples, if_pos (show 16 ≤ k.good + 1 by omega)]

/-- While the sensor stays LOST the sample only counts (R63, R69). -/
theorem strokeAfter_of_counting (h : ¬ OutOfRange s c) (hlost : k.status = .lost) (hgood : k.good < 15) :
    strokeAfter s w c n irregular kFilt k = { k with bad := 0, good := k.good + 1, lastCode := c } := by
  have hin : codeInRange s c = true := codeInRange_iff.mpr h
  have hstays : ({ k with bad := 0, good := k.good + 1, lastCode := c } : Stroke).status ≠ .ok := by simp [hlost]
  rw [strokeAfter, judgedSample, if_pos hin, inRangeSample_of_counting hlost hgood]
  dsimp only
  rw [if_neg (by simp [hlost]), discardIrregular_eq, if_neg fun hd => hstays hd.2]

/-- The clamp of a velocity as a minimum and a maximum (R67). -/
theorem clampVelocity_eq (v : Int) : clampVelocity v = max (-4000) (min v 4000) := by
  unfold clampVelocity Config.velocityLimit
  split
  · omega
  · split <;> omega

/-- The stage from an unprimed wheel: v_raw is 0 (R67). -/
theorem velocityStage_of_unprimed {j : Stroke} (hj : j.lastPosition = none) (x : Int) :
    velocityStage j x n kFilt =
      { j with lastPosition := some x, velocity := j.velocity + ((0 - j.velocity) * kFilt).tdiv 16 } := by
  rw [velocityStage, hj]
  rfl

/-- The stage from a primed wheel (R67, R68). -/
theorem velocityStage_of_primed {j : Stroke} {l : Int} (hj : j.lastPosition = some l) (x : Int) :
    velocityStage j x n kFilt =
      { j with
        lastPosition := some x
        velocity := j.velocity +
          ((max (-4000) (min (((x - l) * 1000).tdiv n) 4000) - j.velocity) * kFilt).tdiv 16 } := by
  rw [velocityStage, hj, rawVelocity, clampVelocity_eq]
  rfl

variable {d : Period}

theorem periodLength_of_comes (h : ExpiryComes s w d) : periodLength s = d.length := by
  rw [periodLength, h.taken]

/-- The interval since the wheel's last expiry differs from the period taken (R71). -/
theorem irregularInterval_iff (h : ExpiryComes s w d) :
    irregularInterval s w (d.phases.get w) = true ↔ Irregular s w d := by
  unfold irregularInterval Irregular
  split
  · next l hl =>
    have honce := h.once l hl
    rw [periodLength_of_comes h, bne_iff_ne]
    constructor
    · exact fun hne => ⟨l, hl, by omega⟩
    · rintro ⟨l', hl', hne⟩
      obtain rfl : l = l' := Option.some.inj (hl.symm.trans hl')
      omega
  · next hl =>
    refine ⟨nofun, ?_⟩
    rintro ⟨l, hl', -⟩
    exact nomatch hl.symm.trans hl'

end Sample

section Instant

variable {s : State} {w : Wheel} {d : Period} {c measured phase : Nat}

theorem lastExpiry_expiryRecord : (expiryRecord s w c measured phase).lastExpiry = some (s.timer.periodStart + phase) := by
  have hjudged : (judgedRecord s w c measured phase).lastExpiry = some (s.timer.periodStart + phase) := by
    unfold judgedRecord
    split <;> rfl
  by_cases hopen : TripsOpen s w c measured phase
  · rw [expiryRecord_of_open hopen]
    exact hjudged
  · rw [expiryRecord_of_not_open hopen]
    by_cases hrun : isRunning (settledState s.mode (judgedRecord s w c measured phase)) = true
    · rw [settleWheel_of_running hrun]
      simp only [runSteps, enterRunning]
      split <;> exact hjudged
    · rw [settleWheel_of_stopped hrun]
      exact hjudged

theorem latched_expiryRecord : (expiryRecord s w c measured phase).latched = latchedFrom s.params w := by
  by_cases hopen : TripsOpen s w c measured phase
  · rw [expiryRecord_of_open hopen]
    exact latched_judgedRecord
  · rw [expiryRecord_of_not_open hopen, latched_settleWheel, latched_judgedRecord]

theorem measured_expiryRecord : (expiryRecord s w c measured phase).measured = measured := by
  by_cases hopen : TripsOpen s w c measured phase
  · rw [expiryRecord_of_open hopen]
    exact measured_judgedRecord
  · rw [expiryRecord_of_not_open hopen, measured_settleWheel, measured_judgedRecord]

/-- Once a wheel had its expiry in a period, no further one comes in it (R55). -/
theorem not_comes_of_had {t : State} (hlast : (wheelOf t w).lastExpiry = some (t.timer.periodStart + phase)) (d : Period) :
    ¬ ExpiryComes t w d := fun hcomes => by
  have hless := hcomes.once _ hlast
  omega

end Instant

/-- An out-of-range sample in the words of R61, R62, R69 and R71. -/
theorem clauses_of_out {s : State} {w : Wheel} {k : Stroke} {c n kFilt : Nat} {irregular : Bool} (hout : OutOfRange s c)
    {lost : Bool} (hlost : lost = true ↔ k.status = .ok ∧ k.bad = 2) :
    let k' := strokeAfter s w c n irregular kFilt k
    k'.status = (if lost then .lost else k.status) ∧ k'.good = 0 ∧ k'.bad = min (k.bad + 1) 3 ∧ k'.lastCode = k.lastCode ∧
      k'.velocity = k.velocity ∧ (irregular = true → k'.status = .ok → k'.lastPosition = none) ∧
      (¬ (irregular = true ∧ k'.status = .ok) → k'.lastPosition = k.lastPosition) := by
  have hloses : losesSensor k = lost := Bool.eq_iff_iff.mpr ((losesSensor_iff k).trans hlost.symm)
  dsimp only
  rw [strokeAfter_of_out hout, discardIrregular_eq]
  refine ⟨?_, rfl, rfl, rfl, rfl, fun hi hs => if_pos ⟨hi, hs⟩, fun hn => if_neg hn⟩
  rw [outOfRangeSample, hloses]

/-- Settles O39: the expiry's errors by `Logs`, its sample by the stroke lemmas, and a second one by the instant recorded. -/
theorem cycleExpiryFollowsTheStroke : Obligations.CycleExpiryFollowsTheStroke := by
  unfold Obligations.CycleExpiryFollowsTheStroke
  intro w code m d s hcomes hd
  have hlogs := logs_expired hd w code.toNat m.val (d.phases.get w)
  have hirregular := irregularInterval_iff hcomes
  have hstroke := stroke_expiryRecord s w code.toNat m.val (d.phases.get w)
  rw [periodLength_of_comes hcomes] at hstroke
  have hself := wheelOf_runExpiry_self s w code.toNat m.val (d.phases.get w)
  have hinstant := lastExpiry_expiryRecord (s := s) (w := w) (c := code.toNat) (measured := m.val) (phase := d.phases.get w)
  have htimer : (runExpiry w code.toNat m.val (d.phases.get w) s).timer = { s.timer with counter := d.phases.get w } :=
    (congrArg State.timer hlogs.rest :)
  refine ⟨_, exec_cycleExpiry_of_comes hcomes code m, ?_⟩
  dsimp only
  rw [hself, hstroke, ← hirregular]
  refine ⟨measured_expiryRecord, latched_expiryRecord, fun hout lost hlost => clauses_of_out hout hlost,
    fun hin hok => ⟨fun hunprimed => ?_, fun l hl hregular => ?_⟩, fun hin hlost => ⟨fun hgood => ?_, fun hgood => ?_⟩,
    hlogs.bank, fun u hu => ?_, fun p => portMarked_settleMarks s (hlogs.port p), htimer, hinstant, fun code' m' => ?_, ?_⟩
  · have hdiscarded : (discardIrregular (irregularInterval s w (d.phases.get w))
        (inRangeSample (wheelOf s w).stroke code.toNat)).lastPosition = none := by
      rw [discardIrregular_eq, inRangeSample_of_ok hok]
      dsimp only
      split
      · rfl
      · next hkept => exact hunprimed.resolve_right fun hi => hkept ⟨hi, hok⟩
    rw [strokeAfter_of_in hin (by rw [inRangeSample_of_ok hok]; exact hok), velocityStage_of_unprimed hdiscarded,
      discardIrregular_eq, inRangeSample_of_ok hok]
    rw [Stroke.mk.injEq]
    exact ⟨hok, rfl, rfl, rfl, rfl, rfl⟩
  · have hkept : (discardIrregular (irregularInterval s w (d.phases.get w))
        (inRangeSample (wheelOf s w).stroke code.toNat)).lastPosition = some l := by
      rw [discardIrregular_eq, inRangeSample_of_ok hok]
      exact (if_neg fun hi => hregular hi.1).trans hl
    rw [strokeAfter_of_in hin (by rw [inRangeSample_of_ok hok]; exact hok), velocityStage_of_primed hkept,
      discardIrregular_eq, inRangeSample_of_ok hok]
    rw [Stroke.mk.injEq]
    exact ⟨hok, rfl, rfl, rfl, rfl, rfl⟩
  · exact strokeAfter_of_counting hin hlost hgood
  · have hdiscarded : (discardIrregular (irregularInterval s w (d.phases.get w))
        (inRangeSample (wheelOf s w).stroke code.toNat)).lastPosition = none := by
      rw [discardIrregular_eq, inRangeSample_of_back hlost hgood]
      exact ite_self _
    rw [strokeAfter_of_in hin (by rw [inRangeSample_of_back hlost hgood]), velocityStage_of_unprimed hdiscarded,
      discardIrregular_eq, inRangeSample_of_back hlost hgood]
    rfl
  · rw [wheelOf_runExpiry, if_neg hu]
  · refine exec_eq_self rfl fun _ => takeExpiry_of_not_comes ?_ (not_comes_of_had (phase := d.phases.get w) ?_) _ _
    · exact (congrArg State.inReset hlogs.rest :).trans hcomes.outside
    · rw [hself, hinstant, htimer]
  · have hrest := hlogs.rest
    rw [runExpiry_eq]
    generalize expired s w code.toNat m.val (d.phases.get w) = x at hrest ⊢
    calc settleMarks s x = { x with ports := (settleMarks s x).ports } := rfl
      _ = _ := by rw [hrest]; rfl

end Sys2Proof.Proofs
end

section
/-! PROOF. Arbitration (O42) and the map lookup (O43). -/

namespace Sys2Proof.Proofs

open Sys2Proof.Machine

section Arbitration

/-- Folding the later item over a list ends at an item that no other is later than. -/
theorem foldl_laterItem {l : List PreviewItem} {best : Option PreviewItem} {i : PreviewItem}
    (h : l.foldl laterItem best = some i) :
    (best = some i ∨ i ∈ l) ∧ (∀ b, best = some b → b.arrival ≤ i.arrival) ∧ ∀ j ∈ l, j.arrival ≤ i.arrival := by
  induction l generalizing best with
  | nil =>
    obtain rfl : best = some i := h
    exact ⟨.inl rfl, fun b hb => by rw [Option.some.inj hb], nofun⟩
  | cons x rest ih =>
    obtain ⟨hmem, hbest, hrest⟩ := ih h
    cases best with
    | none =>
      refine ⟨.inr ?_, nofun, ?_⟩
      · exact hmem.elim (fun hx => Option.some.inj hx ▸ List.mem_cons_self) (List.mem_cons_of_mem x)
      · exact List.forall_mem_cons.mpr ⟨hbest x rfl, hrest⟩
    | some b =>
      by_cases hlater : b.arrival < x.arrival
      · have hkeeps : laterItem (some b) x = some x := if_pos hlater
        refine ⟨.inr ?_, fun b' hb' => ?_, List.forall_mem_cons.mpr ⟨hbest x hkeeps, hrest⟩⟩
        · rw [hkeeps] at hmem
          exact hmem.elim (fun hx => Option.some.inj hx ▸ List.mem_cons_self) (List.mem_cons_of_mem x)
        · obtain rfl := Option.some.inj hb'
          exact hlater.le.trans (hbest x hkeeps)
      · have hkeeps : laterItem (some b) x = some b := if_neg hlater
        refine ⟨?_, fun b' hb' => hbest b' (hkeeps.trans hb'), List.forall_mem_cons.mpr
          ⟨(not_lt.mp hlater).trans (hbest b hkeeps), hrest⟩⟩
        rw [hkeeps] at hmem
        exact hmem.imp_right (List.mem_cons_of_mem x)

theorem foldl_laterItem_eq_none_iff {l : List PreviewItem} {best : Option PreviewItem} :
    l.foldl laterItem best = none ↔ best = none ∧ l = [] := by
  induction l generalizing best with
  | nil => simp
  | cons x rest ih =>
    have hsome : laterItem best x ≠ none := by
      unfold laterItem
      split
      · split <;> exact nofun
      · exact nofun
    rw [List.foldl_cons, ih]
    simp [hsome]

theorem effectiveItem_eq_none_iff (q : List PreviewItem) : effectiveItem q = none ↔ ∀ i ∈ q, i.active = false := by
  rw [effectiveItem, foldl_laterItem_eq_none_iff, List.filter_eq_nil_iff]
  simp

theorem effectiveItem_of_some {q : List PreviewItem} {i : PreviewItem} (h : effectiveItem q = some i) :
    i ∈ q ∧ i.active = true ∧ ∀ j ∈ q, j.active = true → j.arrival ≤ i.arrival := by
  obtain ⟨hmem, -, hlast⟩ := foldl_laterItem h
  obtain ⟨hq, hactive⟩ := List.mem_filter.mp (hmem.resolve_left nofun)
  exact ⟨hq, hactive, fun j hj hja => hlast j (List.mem_filter.mpr ⟨hj, hja⟩)⟩

/-- The stability floor over a base (R22, R23). -/
theorem applyFloor_some (b : Base) (f : DemandRecord) :
    (b.level < f.level → applyFloor b (some f) = ⟨f.level, b.attr, .stability⟩) ∧
      (f.level ≤ b.level → applyFloor b (some f) = b) ∧ f.level ≤ (applyFloor b (some f)).level := by
  refine ⟨fun h => if_pos h, fun h => if_neg (not_lt.mpr h), ?_⟩
  by_cases h : b.level < f.level
  · rw [show applyFloor b (some f) = ⟨f.level, b.attr, .stability⟩ from if_pos h]
  · rw [show applyFloor b (some f) = b from if_neg h]
    exact not_lt.mp h

/-- Settles O42. -/
theorem arbitrationFollowsPrecedence : Obligations.ArbitrationFollowsPrecedence := by
  unfold Obligations.ArbitrationFollowsPrecedence
  refine ⟨fun q => ⟨fun i => effectiveItem_of_some, effectiveItem_eq_none_iff q⟩, fun s w defLevel => ?_⟩
  intro base outcome
  have hbase : chooseBase (effectiveItem (queueOf s w)) (demandOf s w .ride) defLevel = base := by
    unfold chooseBase
    cases hitem : effectiveItem (queueOf s w) <;> cases hride : demandOf s w .ride <;>
      simp only [base, hitem, hride]
  have houtcome : outcome = applyFloor base (demandOf s w .stability) := by rw [← hbase]; rfl
  refine ⟨fun hnone => ?_, fun f hf => ?_⟩
  · rw [houtcome, hnone]
    rfl
  · rw [houtcome, hf]
    exact applyFloor_some base f

end Arbitration

section Lookup

theorem axis_of_lt {x lsb len : Nat} (h : x < 2 ^ (lsb + len)) :
    axisIndex x lsb len = x / 2 ^ lsb ∧ axisIndex x lsb len < 2 ^ len ∧ axisRemainder x lsb len = x % 2 ^ lsb := by
  have hless : x / 2 ^ lsb < 2 ^ len := Nat.div_lt_of_lt_mul (by rwa [← Nat.pow_add])
  rw [axisIndex, if_pos h, Nat.mod_eq_of_lt hless, axisRemainder, if_pos h]
  exact ⟨rfl, hless, rfl⟩

theorem axis_of_le {x lsb len : Nat} (h : 2 ^ (lsb + len) ≤ x) :
    axisIndex x lsb len = 2 ^ len ∧ axisRemainder x lsb len = 0 :=
  ⟨if_neg (not_lt.mpr h), if_neg (not_lt.mpr h)⟩

variable {lower upper lower' upper' whole part : Nat}

/-- The weighted sum, whether or not the upper neighbour is read (R82). -/
theorem blend_eq (lower upper whole part : Nat) : blend lower upper whole part = lower * (whole - part) + upper * part := by
  unfold blend
  split
  · next h => simp [h]
  · rfl

/-- The weighted sum reads the upper neighbour only where it has weight (R82). -/
theorem blend_congr (hl : lower' = lower) (hu : part ≠ 0 → upper' = upper) :
    blend lower' upper' whole part = blend lower upper whole part := by
  by_cases h : part = 0
  · simp only [blend, if_pos h, hl]
  · simp only [blend, if_neg h, hl, hu h]

/-- The weighted sum lies between bounds on what it reads. -/
theorem blend_between {lo hi : Nat} (hp : part < whole) (hl : lo ≤ lower ∧ lower ≤ hi)
    (hu : part ≠ 0 → lo ≤ upper ∧ upper ≤ hi) :
    lo * whole ≤ blend lower upper whole part ∧ blend lower upper whole part ≤ hi * whole := by
  by_cases h : part = 0
  · simp only [blend, if_pos h]
    exact ⟨Nat.mul_le_mul_right _ hl.1, Nat.mul_le_mul_right _ hl.2⟩
  · obtain ⟨hlo, hhi⟩ := hu h
    obtain ⟨rest, rfl⟩ := Nat.exists_eq_add_of_lt hp
    simp only [blend, if_neg h, show part + rest + 1 - part = rest + 1 by omega]
    constructor <;> nlinarith

/-- Rounding half up: the result is the nearest, from above at a half (R83). -/
theorem roundHalfUp_nearest (n bits : Nat) :
    2 * n < (2 * roundHalfUp n bits + 1) * 2 ^ bits ∧ 2 * roundHalfUp n bits * 2 ^ bits ≤ 2 * n + 2 ^ bits := by
  unfold roundHalfUp
  split
  · next h => subst h; omega
  · next h =>
    obtain ⟨b, rfl⟩ := Nat.exists_eq_succ_of_ne_zero h
    have hpow : 2 ^ (b + 1) = 2 * 2 ^ b := by rw [pow_succ, mul_comm]
    have hpos : 0 < 2 ^ b := Nat.pos_of_ne_zero (by positivity)
    have hsplit := Nat.div_add_mod (n + 2 ^ b) (2 ^ (b + 1))
    have hless := Nat.mod_lt (n + 2 ^ b) (show 0 < 2 ^ (b + 1) by omega)
    simp only [Nat.succ_eq_add_one, Nat.add_sub_cancel]
    generalize (n + 2 ^ b) / 2 ^ (b + 1) = m at *
    generalize (n + 2 ^ b) % 2 ^ (b + 1) = r at *
    rw [hpow] at *
    constructor <;> nlinarith

/-- A rounded quotient lies between whole bounds on its quotient. -/
theorem roundHalfUp_between {n bits lo hi : Nat} (hlo : lo * 2 ^ bits ≤ n) (hhi : n ≤ hi * 2 ^ bits) :
    lo ≤ roundHalfUp n bits ∧ roundHalfUp n bits ≤ hi := by
  obtain ⟨habove, hbelow⟩ := roundHalfUp_nearest n bits
  have hpos : 0 < 2 ^ bits := Nat.pos_of_ne_zero (by positivity)
  constructor
  · by_contra hless
    nlinarith
  · by_contra hmore
    nlinarith

variable (E F : Nat → Nat → Nat) (i a j b vlsb llsb : Nat)

/-- The weighted sum of the four neighbours (R82). -/
def blended (E : Nat → Nat → Nat) (i a j b vlsb llsb : Nat) : Nat :=
  blend (blend (E i j) (E (i + 1) j) (2 ^ vlsb) a) (blend (E i (j + 1)) (E (i + 1) (j + 1)) (2 ^ vlsb) a) (2 ^ llsb) b

theorem interpolate_eq : interpolate E i a j b vlsb llsb = roundHalfUp (blended E i a j b vlsb llsb) (vlsb + llsb) := rfl

theorem blended_eq : blended E i a j b vlsb llsb =
    (E i j * (2 ^ vlsb - a) + E (i + 1) j * a) * (2 ^ llsb - b) +
      (E i (j + 1) * (2 ^ vlsb - a) + E (i + 1) (j + 1) * a) * b := by
  simp only [blended, blend_eq]

/-- An entry that the interpolation reads: a neighbour with weight (R82). -/
abbrev ReadsEntry (i a j b r c : Nat) : Prop := (r = i ∨ (r = i + 1 ∧ a ≠ 0)) ∧ (c = j ∨ (c = j + 1 ∧ b ≠ 0))

variable {i a j b vlsb llsb}

/-- Only entries with weight are read (R82). -/
theorem blended_congr (h : ∀ r c, ReadsEntry i a j b r c → F r c = E r c) :
    blended F i a j b vlsb llsb = blended E i a j b vlsb llsb :=
  blend_congr (blend_congr (h _ _ ⟨.inl rfl, .inl rfl⟩) fun ha => h _ _ ⟨.inr ⟨rfl, ha⟩, .inl rfl⟩) fun hb =>
    blend_congr (h _ _ ⟨.inl rfl, .inr ⟨rfl, hb⟩⟩) fun ha => h _ _ ⟨.inr ⟨rfl, ha⟩, .inr ⟨rfl, hb⟩⟩

theorem blended_between (ha : a < 2 ^ vlsb) (hb : b < 2 ^ llsb) {lo hi : Nat}
    (h : ∀ r c, ReadsEntry i a j b r c → lo ≤ E r c ∧ E r c ≤ hi) :
    lo * 2 ^ (vlsb + llsb) ≤ blended E i a j b vlsb llsb ∧ blended E i a j b vlsb llsb ≤ hi * 2 ^ (vlsb + llsb) := by
  rw [pow_add, ← mul_assoc, ← mul_assoc]
  exact blend_between hb
    (blend_between ha (h _ _ ⟨.inl rfl, .inl rfl⟩) fun ha => h _ _ ⟨.inr ⟨rfl, ha⟩, .inl rfl⟩) fun hb =>
      blend_between ha (h _ _ ⟨.inl rfl, .inr ⟨rfl, hb⟩⟩) fun ha => h _ _ ⟨.inr ⟨rfl, ha⟩, .inr ⟨rfl, hb⟩⟩

/-- The plane of a velocity begins at its offset (R75, R79). -/
theorem entryOffset_lookupPlane (v : Int) (row column : Nat) :
    entryOffset (lookupPlane v) row column = (if v < 0 then 153 else 0) + row * 9 + column := by
  rw [entryOffset, lookupPlane]
  split <;> rfl

/-- Settles O43. -/
theorem lookupInterpolates : Obligations.LookupInterpolates := by
  unfold Obligations.LookupInterpolates
  refine ⟨fun x lsb len => ⟨axis_of_lt, axis_of_le⟩, fun E i a j b vlsb llsb ha hb => ?_, fun s a v => ?_⟩
  · dsimp only
    rw [← blended_eq, interpolate_eq]
    refine ⟨roundHalfUp_nearest _ _, fun lo hi hreads => ?_, fun F hF => ?_⟩
    · obtain ⟨hlo, hhi⟩ := blended_between E ha hb hreads
      exact roundHalfUp_between hlo hhi
    · rw [interpolate_eq, blended_congr E F hF]
  · simp only [mapLookup, entryOffset_lookupPlane]
    rfl

end Lookup

end Sys2Proof.Proofs
end

section
/-! PROOF. The parameter space: what GET reads (O19, O20), over the place of every index (Tables 7-7 and 7-9), and what PUT
stores at a parameter (O17). -/

namespace Sys2Proof.Proofs

open Sys2Proof.Machine

section Places

theorem ofNum_num (w : Wheel) : Wheel.ofNum w.num = w := by cases w <;> rfl

theorem num_le_three (w : Wheel) : w.num ≤ 3 := by cases w <;> decide

theorem bankNum_le_five (k : BankId) : bankNum k ≤ 5 := by
  cases k with
  | wheel w => exact (num_le_three w).trans (by decide)
  | link | store => decide

variable {x : BitVec 12}

theorem placeOf_paramIndex {k : Param} (hx : x.toNat = paramIndex k) : placeOf x = .param k := by
  have hlt := paramIndex_lt k
  simp only [placeOf]
  rw [if_pos (by omega), hx, paramAt_paramIndex]

/-- Below 100h nothing follows the parameters (Table 7-7). -/
theorem placeOf_past_params (hlo : 0x32 ≤ x.toNat) (hhi : x.toNat < 0x100) : placeOf x = .unmapped := by
  have hnone : paramAt x.toNat = none := List.getElem?_eq_none_iff.mpr hlo
  simp only [placeOf]
  rw [if_pos hhi, hnone]

theorem placeOf_readOnly (hlo : 0x100 ≤ x.toNat) (hhi : x.toNat < 0x200) : placeOf x = readOnlyPlace x.toNat := by
  simp only [placeOf]
  rw [if_neg (by omega), if_pos hhi]

theorem placeOf_overlayIndex {b : Fin 2} {offset : Nat} (ho : offset < 306)
    (hx : x.toNat = 0xC00 + b.val * 306 + offset) : placeOf x = .overlayEntry b offset := by
  have hb := b.isLt
  have hbank : (x.toNat - 0xC00) / Config.slotEntries = b.val := by rw [Config.slotEntries]; omega
  have hoffset : (x.toNat - 0xC00) % Config.slotEntries = offset := by rw [Config.slotEntries]; omega
  simp only [placeOf]
  rw [if_neg (by omega), if_neg (by omega), if_neg (by omega), if_neg (by omega), if_pos (by omega), hbank, hoffset,
    Fin.ofNat_val_eq_self]

theorem placeOf_past_maps (hx : 0xB90 ≤ x.toNat ∧ x.toNat < 0xC00 ∨ 0xE64 ≤ x.toNat) : placeOf x = .unmapped := by
  simp only [placeOf]
  rw [if_neg (by omega), if_neg (by omega), if_neg (by omega)]
  by_cases hlow : x.toNat < 0xC00
  · rw [if_pos hlow]
  · rw [if_neg hlow, if_neg (by omega)]

variable {i : Nat}

theorem readOnlyPlace_heldCount (w : Wheel) : readOnlyPlace (0x108 + w.num) = .heldCount w := by
  cases w <;> rfl

theorem readOnlyPlace_activeCount (w : Wheel) : readOnlyPlace (0x10C + w.num) = .activeCount w := by
  cases w <;> rfl

/-- Past the wheels' counts an index is the identity, or of an error bank, a demand position or a wheel record. -/
theorem readOnlyPlace_records (hi : 0x110 ≤ i) :
    readOnlyPlace i =
      if i = 0x13F then .identity
      else if i < 0x140 then
        if (i - 0x110) % 8 < 6 then .errorField ((i - 0x110) / 8) ((i - 0x110) % 8) else .unmapped
      else if i < 0x180 then
        if (i - 0x140) % 8 < 5 then
          .demandField (Wheel.ofNum ((i - 0x140) / 16)) (if (i - 0x140) % 16 < 8 then .ride else .stability)
            ((i - 0x140) % 8)
        else .unmapped
      else
        if (i - 0x180) % 32 < 0x14 then .wheelField (Wheel.ofNum ((i - 0x180) / 32)) ((i - 0x180) % 32)
        else .unmapped := by
  rw [readOnlyPlace, if_neg (by omega), if_neg (by omega), if_neg (by omega), if_neg (by omega), if_neg (by omega),
    if_neg (by omega), if_neg (by omega), if_neg (by omega), if_neg (by omega), if_neg (by omega)]

theorem readOnlyPlace_errorField {k : BankId} {n : Nat} (hn : n < 6) (hi : i = 0x110 + bankNum k * 8 + n) :
    readOnlyPlace i = .errorField (bankNum k) n := by
  have hk := bankNum_le_five k
  have hbank : (i - 0x110) / 8 = bankNum k := by omega
  have hfield : (i - 0x110) % 8 = n := by omega
  rw [readOnlyPlace_records (by omega), if_neg (by omega), if_pos (by omega), hbank, hfield, if_pos hn]

theorem readOnlyPlace_demandField {w : Wheel} {src : Source} {n : Nat} (hn : n < 5)
    (hi : i = 0x140 + w.num * 0x10 + (if src = .ride then 0 else 8) + n) : readOnlyPlace i = .demandField w src n := by
  have hw := num_le_three w
  have hsrc : (if (i - 0x140) % 16 < 8 then Source.ride else .stability) = src := by
    cases src with
    | ride => rw [if_pos rfl] at hi; exact if_pos (by omega)
    | stability => rw [if_neg (by decide)] at hi; exact if_neg (by omega)
  have hhalf : (if src = .ride then 0 else 8) = 0 ∨ (if src = .ride then 0 else 8) = 8 := by split <;> simp
  have hwheel : (i - 0x140) / 16 = w.num := by omega
  have hfield : (i - 0x140) % 8 = n := by omega
  rw [readOnlyPlace_records (by omega), if_neg (by omega), if_neg (by omega), if_pos (by omega), hsrc, hwheel, hfield,
    if_pos hn, ofNum_num]

theorem readOnlyPlace_wheelField {w : Wheel} {n : Nat} (hn : n < 0x14) (hi : i = 0x180 + w.num * 0x20 + n) :
    readOnlyPlace i = .wheelField w n := by
  have hw := num_le_three w
  have hwheel : (i - 0x180) / 32 = w.num := by omega
  have hfield : (i - 0x180) % 32 = n := by omega
  rw [readOnlyPlace_records (by omega), if_neg (by omega), if_neg (by omega), if_neg (by omega), hwheel, hfield,
    if_pos hn, ofNum_num]

/-- The read-only indices that Table 7-9 leaves out. -/
theorem readOnlyPlace_unmapped
    (hi : (0x110 ≤ i ∧ i < 0x140 ∧ i ≠ 0x13F ∧ 6 ≤ (i - 0x110) % 8) ∨ (0x140 ≤ i ∧ i < 0x180 ∧ 5 ≤ (i - 0x140) % 8) ∨
      (0x180 ≤ i ∧ i < 0x200 ∧ 0x14 ≤ (i - 0x180) % 32)) : readOnlyPlace i = .unmapped := by
  rw [readOnlyPlace_records (by omega), if_neg (by omega)]
  obtain hbank | hdemand | hwheel := hi
  · rw [if_pos (by omega), if_neg (by omega)]
  · rw [if_neg (by omega), if_pos (by omega), if_neg (by omega)]
  · rw [if_neg (by omega), if_neg (by omega), if_neg (by omega)]

/-- Every unmapped index is read and written nowhere (Tables 7-7 and 7-9). -/
theorem placeOf_unmappedIndex (hx : UnmappedIndex x.toNat) : placeOf x = .unmapped := by
  obtain hparam | hmap | hend | hrecord := hx
  · exact placeOf_past_params hparam.1 hparam.2
  · exact placeOf_past_maps (.inl hmap)
  · exact placeOf_past_maps (.inr hend)
  · rw [placeOf_readOnly (by omega) (by omega), readOnlyPlace_unmapped hrecord]

end Places

section Reading

variable {s : State} {h : Header} {d : BitVec 12}

/-- A sender that becomes LIVE changes nothing that GET reads. -/
theorem readPlace_makeLive (s : State) (p : Port) (P : Place) : readPlace (makeLive s p) P = readPlace s P := by
  cases P <;> rfl

/-- GET answers what stands at the place of its port's pointer (R138). -/
theorem getReads_of_place (hr : Receives s h.port) {P : Place} {v : BitVec 16}
    (hp : placeOf (portOf s h.port).pointer = P) (hv : readPlace s P = some v) : GetReads s h d v := by
  refine answersAndAdvances_of_owner_refuses rfl hr rfl ?_ (.inr rfl)
  rw [getAtPointer, portOf_makeLive_self, readPlace_makeLive, hp, hv]
  rfl

/-- GET at an unmapped index answers BAD_ARG (R138). -/
theorem get_badArg_of_unmapped (hr : Receives s h.port) (hp : placeOf (portOf s h.port).pointer = .unmapped) :
    AnswersAndAdvances (.get h d) s h .badArg 0 := by
  refine answersAndAdvances_of_owner_refuses rfl hr rfl ?_ (.inr rfl)
  rw [getAtPointer, portOf_makeLive_self, hp]
  rfl

/-- GET at a read-only index (Table 7-9). -/
theorem getReads_of_readOnly (hr : Receives s h.port) {P : Place} {v : BitVec 16} {x : Nat}
    (hx : (portOf s h.port).pointer.toNat = x) (hlo : 0x100 ≤ x) (hhi : x < 0x200) (hp : readOnlyPlace x = P)
    (hv : readPlace s P = some v) : GetReads s h d v :=
  getReads_of_place hr (by rw [placeOf_readOnly (hx ▸ hlo) (hx ▸ hhi), hx, hp]) hv

/-- A field of a demand position as it is read, 0 where the position is empty (R18). -/
def positionField (s : State) (n : Nat) : Option DemandRecord → BitVec 16
  | some r => demandFieldValue s r n
  | none => 0

theorem readPlace_demandField (w : Wheel) (src : Source) (n : Nat) :
    readPlace s (.demandField w src n) = some (positionField s n (demandOf s w src)) := by
  rw [readPlace]
  cases demandOf s w src <;> rfl

/-- GET at a field of a demand position (R18). -/
theorem getReads_of_demandField (hr : Receives s h.port) {w : Wheel} {src : Source} {n : Nat} {v : BitVec 16} (hn : n < 5)
    (hx : (portOf s h.port).pointer.toNat = 0x140 + w.num * 0x10 + (if src = .ride then 0 else 8) + n)
    (hv : positionField s n (demandOf s w src) = v) : GetReads s h d v := by
  have hw := num_le_three w
  have hhalf : (if src = .ride then 0 else 8) ≤ 8 := by split <;> decide
  refine getReads_of_readOnly hr hx (by omega) (by omega) (readOnlyPlace_demandField hn rfl) ?_
  rw [readPlace_demandField, hv]

theorem positionLow_eq (p : BitVec 24) : p.extractLsb' 0 16 = word16 (p.toNat % 65536) := by
  refine BitVec.eq_of_toNat_eq ?_
  simp [word16]

theorem positionHigh_eq (p : BitVec 24) : (p.extractLsb' 16 8).setWidth 16 = word16 (p.toNat / 65536) := by
  refine BitVec.eq_of_toNat_eq ?_
  have hp := p.isLt
  rw [BitVec.toNat_setWidth, BitVec.extractLsb'_toNat, word16, BitVec.toNat_ofNat, Nat.shiftRight_eq_div_pow]
  omega

/-- A map index is read in the slot, unless in CALIBRATE a bank is bound to it (R91). -/
theorem entryRead_of_slot {k : Fin 8} {a : Nat} (hm : s.mode ≠ .calibrate ∨ bankBoundTo s k = none) :
    entryRead s k a = Memory.read (slotOf s k).entries a := by
  unfold entryRead
  split
  next hcal hb => simp [hcal, hb] at hm
  next => rfl

/-- In CALIBRATE a map index of a bound slot is read in its bank (R91). -/
theorem entryRead_of_bank {k : Fin 8} {b : Fin 2} {a : Nat} (hm : s.mode = .calibrate)
    (hb : bankBoundTo s k = some b) : entryRead s k a = Memory.read (bankOf s b).entries a := by
  rw [entryRead, hm, hb]

/-- The slot validity mask as the number of its bits (R77). -/
theorem validityMask_eq (s : State) : validityMask s = Nat.ofBits fun k : Fin 8 => (slotOf s k).valid := by
  have hbit : ∀ (b : Bool) (n : Nat), (if b then n else 0) = n * b.toNat := fun b n => by cases b <;> simp
  simp only [validityMask, hbit, List.finRange_succ, List.finRange_zero, List.map_cons, List.map_nil,
    List.sum_cons, List.sum_nil, Function.comp_apply, Nat.ofBits_succ, Nat.ofBits_zero]
  norm_num [Fin.ext_iff]
  ring

/-- A demand position is read field by field (R18). -/
theorem positionField_of_getElem? {r : Option DemandRecord} {n : Nat} {v : BitVec 16}
    (hv : (demandFields s r)[n]? = some v) : n < 5 ∧ positionField s n r = v := by
  have hn : n < 5 := by
    have hlt := (List.getElem?_eq_some_iff.mp hv).1
    cases r <;> exact hlt
  refine ⟨hn, Option.some.inj (Eq.trans ?_ hv)⟩
  cases r <;> interval_cases n <;> rfl

/-- An error bank is read field by field (Table 7-9). -/
theorem errorField_of_getElem? {b : ErrorRecord} {n : Nat} {v : BitVec 16} (hv : (bankFields b)[n]? = some v) :
    n < 6 ∧ errorFieldValue b n = v := by
  have hn : n < 6 := (List.getElem?_eq_some_iff.mp hv).1
  refine ⟨hn, Option.some.inj (Eq.trans ?_ hv)⟩
  interval_cases n <;> rfl

/-- A wheel record is read field by field (Table 7-11). -/
theorem wheelField_of_getElem? {r : WheelRecord} {n : Nat} {v : BitVec 16} (hv : (wheelFields r)[n]? = some v) :
    n < 0x14 ∧ wheelFieldValue r n = v := by
  have hn : n < 0x14 := (List.getElem?_eq_some_iff.mp hv).1
  refine ⟨hn, Option.some.inj (Eq.trans ?_ hv)⟩
  interval_cases n <;> rfl

end Reading

/-- Settles O19: the place of each index, and what stands there. -/
theorem getReadsParametersMapsAndDevice : Obligations.GetReadsParametersMapsAndDevice := by
  intro h d s hr At
  refine ⟨fun k hx => getReads_of_place hr (placeOf_paramIndex hx) rfl, fun k a ha hx => ⟨fun hm => ?_, fun hm b hb hone => ?_⟩,
    fun b a ha hx => getReads_of_place hr (placeOf_overlayIndex ha hx) rfl,
    fun hx => getReads_of_readOnly hr hx (by decide) (by decide) rfl rfl,
    fun hx => getReads_of_readOnly hr hx (by decide) (by decide) rfl rfl,
    fun hx => getReads_of_readOnly hr hx (by decide) (by decide) rfl (congrArg some (positionLow_eq _)),
    fun hx => getReads_of_readOnly hr hx (by decide) (by decide) rfl (congrArg some (positionHigh_eq _)),
    fun hx => ⟨BitVec.ofNat 8 (validityMask s), fun k => ?_, getReads_of_readOnly (P := .slotValidity) hr hx (by decide) (by decide) rfl ?_⟩,
    fun b hx => ?_,
    fun hx => getReads_of_readOnly hr hx (by decide) (by decide) rfl rfl, fun w hx => ?_, fun w hx => ?_,
    fun hx => getReads_of_readOnly hr hx (by decide) (by decide) rfl rfl,
    fun x hunmapped hx => get_badArg_of_unmapped hr (placeOf_unmappedIndex (by rwa [hx]))⟩
  · refine getReads_of_place hr (placeOf_mapIndex ha hx) ?_
    rw [readPlace, entryRead_of_slot (hm.imp_right bankBoundTo_eq_none)]
  · refine getReads_of_place hr (placeOf_mapIndex ha hx) ?_
    rw [readPlace, entryRead_of_bank hm (bankBoundTo_eq_some hb hone)]
  · rw [validityMask_eq, BitVec.getLsbD_ofNat, Nat.testBit_ofBits_lt _ _ k.isLt]
    simp
  · have hlt : validityMask s < 2 ^ 8 := by rw [validityMask_eq]; exact Nat.ofBits_lt_two_pow _
    rw [readPlace, word16, BitVec.setWidth_ofNat_of_le_of_lt (by decide) hlt]
  · obtain rfl | rfl : b = 0 ∨ b = 1 := by omega
    · exact getReads_of_readOnly hr hx (by decide) (by decide) rfl rfl
    · exact getReads_of_readOnly hr hx (by decide) (by decide) rfl rfl
  · have hw := num_le_three w
    exact getReads_of_readOnly hr hx (by omega) (by omega) (readOnlyPlace_heldCount w) rfl
  · have hw := num_le_three w
    exact getReads_of_readOnly hr hx (by omega) (by omega) (readOnlyPlace_activeCount w) rfl

/-- Settles O20: the place of each field, and the field's value. -/
theorem getReadsTheRecords : Obligations.GetReadsTheRecords := by
  intro h d s n v hr At
  refine ⟨fun w src hv hx => ?_, fun k hv hx => ?_, fun w hv hx => ?_⟩
  · obtain ⟨hn, hvalue⟩ := positionField_of_getElem? hv
    exact getReads_of_demandField hr hn hx hvalue
  · obtain ⟨hn, hvalue⟩ := errorField_of_getElem? hv
    have hk := bankNum_le_five k
    refine getReads_of_readOnly hr hx (by omega) (by omega) (readOnlyPlace_errorField hn rfl) ?_
    rw [readPlace, bankIdOf_bankNum, Option.map_some, hvalue]
  · obtain ⟨hn, hvalue⟩ := wheelField_of_getElem? hv
    have hw := num_le_three w
    refine getReads_of_readOnly hr hx (by omega) (by omega) (readOnlyPlace_wheelField hn rfl) ?_
    rw [readPlace, hvalue]

section Storing

variable {s : State} {k : Param} {d : BitVec 12}

/-- A PUT's value is held to the parameter's range (R139). -/
theorem clampToRange_eq (k : Param) (v : Int) : clampToRange k v = max (paramLo k) (min v (paramHi k)) := by
  have hrange : paramLo k ≤ paramHi k := by cases k <;> simp [paramLo, paramHi]
  rw [clampToRange]
  omega

/-- The stored value crosses the other bound of its axle (R139). -/
theorem breaksAxle_iff {ps : Params} {v : Int} :
    breaksAxle ps k v = true ↔
      ∃ x, (k = .imin x ∧ getParam ps (.imax x) < v) ∨ (k = .imax x ∧ v < getParam ps (.imin x)) := by
  cases k <;> simp [breaksAxle]

/-- Outside CONFIG a parameter that is not live is refused (R139). -/
theorem putAtParam_of_not_live (hm : s.mode ≠ .config) (hl : paramLive k = false) :
    putAtParam k d s = refuseWith s .notPermitted :=
  if_pos ⟨hm, hl⟩

/-- Outside CONFIG a stored value that crosses its axle's other bound is refused (R139). -/
theorem putAtParam_of_crosses (hm : s.mode ≠ .config) (hl : paramLive k = true)
    (hc : breaksAxle s.params k (clampToRange k (putValue k d)) = true) :
    putAtParam k d s = refuseWith s .badArg :=
  (if_neg fun h => by simp [hl] at h).trans (if_pos ⟨hm, hc⟩)

/-- In CONFIG, and where neither refusal applies, the value is stored (R139). -/
theorem putAtParam_of_stored
    (hm : s.mode = .config ∨
      (paramLive k = true ∧ ¬ breaksAxle s.params k (clampToRange k (putValue k d)) = true)) :
    putAtParam k d s =
      ⟨storeParam k (clampToRange k (putValue k d)) s,
        if clampToRange k (putValue k d) = putValue k d then .ok else .clamped,
        BitVec.ofInt 16 (clampToRange k (putValue k d))⟩ := by
  obtain hconfig | ⟨hlive, hcross⟩ := hm
  · exact (if_neg fun h => h.1 hconfig).trans (if_neg fun h => h.1 hconfig)
  · exact (if_neg fun h => by simp [hlive] at h).trans (if_neg fun h => hcross h.2)

/-- IMIN and IMAX are live (Table 7-8). -/
theorem paramLive_of_breaksAxle {ps : Params} {v : Int} (hc : breaksAxle ps k v = true) : paramLive k = true := by
  obtain ⟨x, ⟨rfl, -⟩ | ⟨rfl, -⟩⟩ := breaksAxle_iff.mp hc <;> rfl

variable {p : Port}

/-- A PUT whose pointer holds a parameter index is the parameter's (R139). -/
theorem putAtPointer_of_paramIndex (hx : (portOf s p).pointer.toNat = paramIndex k) :
    putAtPointer p d (makeLive s p) = putAtParam k d (makeLive s p) := by
  rw [putAtPointer, portOf_makeLive_self, placeOf_paramIndex hx]

/-- An admitted PUT or GET whose owner leaves the ports alone: the answer, the pointer's advance, and the rest of the state
its owner gives. -/
theorem takeFrame_advanced_of_ports_kept {h : Header} {c : Command} {owner : State → Answer} {u : State} {st : Status}
    {v : BitVec 16} (hr : Receives s h.port) (ha : admitted s h.port c = true) (hc : c = .put ∨ c = .get)
    (ho : owner (makeLive s h.port) = ⟨u, st, v⟩) (hu : u.ports = (makeLive s h.port).ports) :
    Answered s (takeFrame h c owner s) h st v ∧ PortAdvanced s (takeFrame h c owner s) h.port ∧
      OthersKept s (takeFrame h c owner s) h.port ∧
      takeFrame h c owner s = { u with ports := (takeFrame h c owner s).ports } := by
  have hports : ∀ q, portOf u q = portOf (makeLive s h.port) q := fun q => by rw [portOf, hu, portOf]
  obtain ⟨hans, hport, hother, hrest⟩ := takeFrame_admitted hr ha ho ⟨by simp [hports], by simp [hports]⟩
  have hlive : PortPointed s u h.port (portOf s h.port).pointer := by constructor <;> simp [hports]
  rw [if_pos hc, hlive.pointer] at hport
  refine ⟨hans, hlive.trans hport, fun q hq => ?_, hrest⟩
  rw [hother q hq, hports, portOf_makeLive_ne s hq]

/-- PUT is refused wherever no parameter and no map entry is (R139). -/
theorem putAtPointer_of_not_written (hparam : ∀ k, placeOf (portOf s p).pointer ≠ .param k)
    (hmap : ∀ k offset, placeOf (portOf s p).pointer ≠ .mapEntry k offset) :
    putAtPointer p d s = refuseWith s .notPermitted := by
  unfold putAtPointer
  split
  next k hp => exact absurd hp (hparam k)
  next k offset hp => exact absurd hp (hmap k offset)
  next => rfl

theorem readOnlyPlace_ne_param (x : Nat) (k : Param) : readOnlyPlace x ≠ .param k := by
  simp only [readOnlyPlace, fourWheels, ne_eq, ite_eq_iff]
  simp

/-- The read-only, unmapped and overlay indices (Table 7-7): PUT is refused there. -/
theorem putAtPointer_of_readOnlyIndex
    (hx : (0x32 ≤ (portOf s p).pointer.toNat ∧ (portOf s p).pointer.toNat < 0x200) ∨
      0xB90 ≤ (portOf s p).pointer.toNat) : putAtPointer p d s = refuseWith s .notPermitted := by
  generalize hpointer : (portOf s p).pointer = x at hx
  by_cases hparam : x.toNat < 0x100
  · have hp := placeOf_past_params (x := x) (by omega) hparam
    exact putAtPointer_of_not_written (by simp [hpointer, hp]) (by simp [hpointer, hp])
  by_cases hread : x.toNat < 0x200
  · have hp := placeOf_readOnly (x := x) (by omega) hread
    exact putAtPointer_of_not_written (by simp [hpointer, hp, readOnlyPlace_ne_param])
      (by simp [hpointer, hp, readOnlyPlace_ne_mapEntry])
  by_cases hgap : x.toNat < 0xC00 ∨ 0xE64 ≤ x.toNat
  · have hp := placeOf_past_maps (x := x) (by omega)
    exact putAtPointer_of_not_written (by simp [hpointer, hp]) (by simp [hpointer, hp])
  · have hp : placeOf x = .overlayEntry ⟨(x.toNat - 0xC00) / 306, by omega⟩ ((x.toNat - 0xC00) % 306) :=
      placeOf_overlayIndex (by omega) (by dsimp only; omega)
    exact putAtPointer_of_not_written (by simp [hpointer, hp]) (by simp [hpointer, hp])

theorem storeParam_params (k : Param) (v : Int) (s : State) : (storeParam k v s).params = putParam s.params k v := by
  simp [storeParam]

/-- A stored parameter touches the parameters and the wheels alone. -/
theorem storeParam_rest (k : Param) (v : Int) (s : State) :
    storeParam k v s = { s with params := (storeParam k v s).params, wheels := (storeParam k v s).wheels } := by
  cases k <;> rfl

end Storing

/-- Settles O17: acceptance admits, and the index's owner refuses or stores. -/
theorem putStoresAParameter : Obligations.PutStoresAParameter := by
  intro i h d s hi hs hop
  obtain ⟨hr, hrole⟩ := hs
  have he := exec_put_or_mapPut (s := s) hi
  have ha := admitted_put_iff.mpr ⟨hrole, hop⟩
  constructor
  · intro k hx asked stored Crosses
    have hasked : asked = putValue k d := by cases k <;> rfl
    have hstored : stored = clampToRange k (putValue k d) := by rw [clampToRange_eq, ← hasked]
    have hcrosses : breaksAxle s.params k (clampToRange k (putValue k d)) = true ↔ Crosses := by
      rw [← hstored]
      exact breaksAxle_iff
    have howner := putAtPointer_of_paramIndex (d := d) hx
    refine ⟨fun hm hl => ?_, fun hm hc => ?_, fun hm => ?_⟩
    · exact answersAndAdvances_of_owner_refuses he hr ha (howner.trans (putAtParam_of_not_live hm hl)) (.inl rfl)
    · have hbreaks := hcrosses.mpr hc
      exact answersAndAdvances_of_owner_refuses he hr ha
        (howner.trans (putAtParam_of_crosses hm (paramLive_of_breaksAxle hbreaks) hbreaks)) (.inl rfl)
    · rw [← hcrosses] at hm
      rw [hasked, hstored]
      have ho := howner.trans (putAtParam_of_stored (s := makeLive s h.port) hm)
      generalize clampToRange k (putValue k d) = v at *
      obtain ⟨hans, hport, hother, hrest⟩ := takeFrame_advanced_of_ports_kept hr ha (.inl rfl) ho (storeParam_ports ..)
      have hparams := congrArg State.params hrest
      have hwheels := congrArg State.wheels hrest
      generalize takeFrame h .put (putAtPointer h.port d) s = t at *
      rw [storeParam_params] at hparams
      refine ⟨t, he, hans, hport, hother, fun j => ?_, fun w => ?_, ?_⟩
      · rw [hparams]
        exact getParam_putParam_eq ..
      · calc wheelOf t w = wheelOf (storeParam k v (makeLive s h.port)) w := by rw [wheelOf, hwheels, wheelOf]
          _ = _ := wheelOf_storeParam ..
      · rw [hparams, hwheels]
        rw [storeParam_rest, storeParam_params] at hrest
        exact hrest
  · intro x hx
    exact answersAndAdvances_of_owner_refuses he hr ha
      (putAtPointer_of_readOnlyIndex (by simpa only [portOf_makeLive_self] using hx)) (.inl rfl)

end Sys2Proof.Proofs
end

section
/-! PROOF. The remaining time of a demand record: from its hold, boundary by boundary, to its expiry (O10). -/

namespace Sys2Proof.Proofs

open Sys2Proof.Machine

section Holds

variable {s t : State} {h : Header} {src : Source} {w : Wheel}

/-- The hold time of a source's records (R4, R5). -/
def holdOf : Source → Param
  | .ride => .holdRide
  | .stability => .holdStab

/-- The mask of a frame that names a wheel is not empty. -/
theorem mask_ne_zero_of_named (hw : h.mask.getLsbD w.num = true) : h.mask ≠ 0 := by
  intro hm
  simp [hm] at hw

/-- An admitted demand of either source writes a record that expires its hold past the present boundary (R3). -/
theorem exec_demand_wroteNamed {data : BitVec 12} (hs : SentAs s h (sourceRole src)) (hop : OperatingMode s.mode)
    (hm : h.mask ≠ 0) :
    ∃ t r, exec (if src = .ride then .setLevel h data else .setFloor h data) s = .next t ∧
      WroteNamed s t h src (some r) ∧ r.expiry = s.msCount + 10 * param s (holdOf src) := by
  obtain ⟨hr, hrole⟩ := hs
  cases src with
  | ride =>
    exact ⟨_, _, rfl, takeFrame_wroteNamed hr (admitted_setLevel_iff.mpr ⟨hrole, hop⟩) (by decide)
      (setLevel_of_mask_ne_zero data hm), rfl⟩
  | stability =>
    exact ⟨_, _, rfl, takeFrame_wroteNamed hr (admitted_setFloor_iff.mpr ⟨hrole, hop⟩) (by decide)
      (setFloor_of_mask_ne_zero data hm), rfl⟩

/-- A record reads its hold at the boundary it was set at (R3). -/
theorem remainingTime_of_hold {r : DemandRecord} {hold : Nat} (hpos : 0 < hold) (hr : r.expiry = s.msCount + hold) :
    remainingTime s r = hold := by
  rw [remainingTime]
  omega

/-- A record that is still to live reads one less after a boundary (R3). -/
theorem remainingTime_tick {r : DemandRecord} (hlive : s.msCount + 1 < r.expiry) :
    remainingTime (tickMillisecond s) r + 1 = remainingTime s r := by
  simp only [remainingTime, tickMillisecond]
  omega

/-- A record whose boundary has come is removed and its origin told (R3, R8). -/
theorem expireDemand_of_due {r : DemandRecord} (hd : demandOf s w src = some r) (hdue : r.expiry ≤ s.msCount) :
    expireDemand w src s = raiseAt (setDemand s w src none) .demandLapsed r.origin := by
  simp only [expireDemand, hd, if_pos hdue]

end Holds

/-- Settles O10: the written record carries its hold, a boundary takes one millisecond from it, and its expiry empties the
position. -/
theorem demandRecordsExpireAtTheirBoundary : Obligations.DemandRecordsExpireAtTheirBoundary := by
  refine ⟨?_, fun s hout => ⟨_, exec_eq_work hout rfl, rfl, fun r => remainingTime_tick⟩,
    fun w src r s hout hd hdue => ⟨_, (exec_eq_work hout rfl).trans (congrArg _ (expireDemand_of_due hd hdue)),
      fun u k => ?_, ?_, fun q hq => ?_, rfl⟩⟩
  · intro src h data w s hs hop hw i hold hpos
    obtain ⟨t, r, he, hwrote, hexpiry⟩ := exec_demand_wroteNamed (data := data) hs hop (mask_ne_zero_of_named hw)
    have hhold : hold = 10 * param s (holdOf src) := by cases src <;> rfl
    have hcount : t.msCount = s.msCount := (congrArg State.msCount hwrote.rest :)
    have hrecord : demandOf t w src = some r := by rw [hwrote.at_source, if_pos hw]
    rw [← hcount, ← hhold] at hexpiry
    refine ⟨t, r, he, hrecord, hexpiry, remainingTime_of_hold hpos hexpiry, fun h' d hr' hx => ?_⟩
    refine getReads_of_demandField hr' (by decide) hx ?_
    rw [hrecord]
    exact congrArg word16 (remainingTime_of_hold hpos hexpiry)
  · exact demandOf_setDemand ..
  · exact portEdged_congr (portEdged_raiseAt (setDemand s w src none) .demandLapsed r.origin r.origin) fun e => by simp
  · rw [portOf_raiseAt, if_neg hq]
    rfl

end Sys2Proof.Proofs
end

section
/-! PROOF. What a PREVIEW_AT inserts (O14): the item that it has for each queue, the COPY that is lost, and the frame. -/

namespace Sys2Proof.Proofs

open Sys2Proof.Machine

section Items

variable {s : State} {mask : BitVec 4} {g : Staging} {d : BitVec 12} {w f : Wheel} {n : Nat}

/-- An item a little ahead of P is inserted ACTIVE exactly when it is at P (R43, R44). -/
theorem active_stagedItem {ahead : Nat} (ha : ahead ≤ 8095) (origin : ItemOrigin) :
    (stagedItem s g ahead origin).active = decide (ahead = 0) := by
  have hd := distanceTo_stagedItem (s := s) (g := g) ha origin
  have hreached := reached_iff_distanceTo_le s.travel.position (stagedItem s g ahead origin).trigger
    (sub_ne_of_distanceTo (by omega))
  rw [hd] at hreached
  change reached s.travel.position (stagedItem s g ahead origin).trigger = decide (ahead = 0)
  rw [Bool.eq_iff_iff, hreached, decide_eq_true_eq]
  omega

/-- The DIRECT item of a PREVIEW_AT (R43). -/
theorem stagedItem_direct (s : State) (g : Staging) (d : BitVec 12) :
    stagedItem s g d.toNat .direct =
      ⟨s.travel.position + d.setWidth 24, g.span, g.level, g.attr, .direct, d == 0, s.preview.arrivals⟩ := by
  have hd : d.toNat ≤ 4095 := Nat.le_of_lt_succ d.isLt
  have hactive : (stagedItem s g d.toNat .direct).active = (d == 0) := by
    rw [active_stagedItem (by omega), Bool.eq_iff_iff, decide_eq_true_eq, beq_iff_eq, BitVec.toNat_eq]
    rfl
  have hwidth : BitVec.ofNat 24 d.toNat = d.setWidth 24 := by rw [BitVec.ofNat_toNat]
  calc stagedItem s g d.toNat .direct
      = ⟨s.travel.position + BitVec.ofNat 24 d.toNat, g.span, g.level, g.attr, .direct,
          (stagedItem s g d.toNat .direct).active, s.preview.arrivals⟩ := rfl
    _ = _ := by rw [hactive, hwidth]

/-- The COPY item of a PREVIEW_AT lies a wheelbase farther, and so is PENDING (R44). -/
theorem stagedItem_copy (hps : ParamsInRange s.params) (g : Staging) (d : BitVec 12) (f : Wheel) :
    stagedItem s g (d.toNat + param s .wheelbase) (.copy f) =
      ⟨s.travel.position + d.setWidth 24 + BitVec.ofNat 24 (param s .wheelbase), g.span, g.level, g.attr, .copy f, false,
        s.preview.arrivals⟩ := by
  have hd : d.toNat ≤ 4095 := Nat.le_of_lt_succ d.isLt
  have hbase : 2000 ≤ param s .wheelbase ∧ param s .wheelbase ≤ 4000 := by
    obtain ⟨hlo, hhi⟩ := hps .wheelbase
    simp only [paramLo, paramHi] at hlo hhi
    rw [param, natParam]
    omega
  have hactive : (stagedItem s g (d.toNat + param s .wheelbase) (.copy f)).active = false := by
    rw [active_stagedItem (by omega), decide_eq_false_iff_not]
    omega
  have hwidth : s.travel.position + BitVec.ofNat 24 (d.toNat + param s .wheelbase) =
      s.travel.position + d.setWidth 24 + BitVec.ofNat 24 (param s .wheelbase) := by
    rw [BitVec.ofNat_add, BitVec.ofNat_toNat, BitVec.add_assoc]
  calc stagedItem s g (d.toNat + param s .wheelbase) (.copy f)
      = ⟨s.travel.position + BitVec.ofNat 24 (d.toNat + param s .wheelbase), g.span, g.level, g.attr, .copy f,
          (stagedItem s g (d.toNat + param s .wheelbase) (.copy f)).active, s.preview.arrivals⟩ := rfl
    _ = _ := by rw [hactive, hwidth]

/-- The front wheel whose COPY a rear queue is to receive, by the mask's bits (R44). -/
theorem copySource_eq_some_iff :
    copySource mask g w = some f ↔
      g.copyFlag = true ∧ f.rearPartner = some w ∧ mask.getLsbD f.num = true ∧ ¬ mask.getLsbD w.num = true := by
  rw [copySource_eq_some, Bool.not_eq_true]
  rfl

/-- A named wheel's queue gets the DIRECT item (R43). -/
theorem itemFor_of_named (hw : mask.getLsbD w.num = true) : itemFor s mask g n w = some (stagedItem s g n .direct) :=
  if_pos hw

/-- The rear queue of a copied front wheel gets the COPY where it has room (R44). -/
theorem itemFor_of_copy (hc : copySource mask g w = some f) (hroom : (queueOf s w).length < 12) :
    itemFor s mask g n w = some (stagedItem s g (n + param s .wheelbase) (.copy f)) := by
  obtain ⟨-, -, -, hw⟩ := copySource_eq_some_iff.mp hc
  have hfull : isFull (queueOf s w) = false := by
    rw [← Bool.not_eq_true, isFull_iff]
    omega
  simp only [itemFor, hc, hfull]
  exact if_neg hw

/-- The wheels that receive an item (R43, R44, R45). -/
theorem itemFor_isSome_iff :
    (itemFor s mask g n w).isSome = true ↔
      mask.getLsbD w.num = true ∨ ((queueOf s w).length < 12 ∧ ∃ f, copySource mask g w = some f) := by
  by_cases hw : mask.getLsbD w.num = true
  · simp [itemFor_of_named hw, hw]
  have hname : namesWheel mask w = false := Bool.eq_false_iff.mpr hw
  cases hc : copySource mask g w with
  | none => simp [itemFor, hc, hname, hw]
  | some f =>
    by_cases hroom : (queueOf s w).length < 12
    · simp [itemFor_of_copy hc hroom, hroom]
    · have hfull : isFull (queueOf s w) = true := (isFull_iff _).mpr (not_lt.mp hroom)
      simp [itemFor, hc, hname, hfull, hw, hroom]

/-- A COPY is lost where its rear queue holds 12 items (R44). -/
theorem any_losesCopy_iff :
    Wheel.all.any (losesCopy s mask g) = true ↔
      ∃ f w, copySource mask g w = some f ∧ 12 ≤ (queueOf s w).length := by
  simp only [List.any_eq_true, losesCopy, Bool.and_eq_true, isFull_iff, Option.isSome_iff_exists]
  constructor
  · rintro ⟨w, -, ⟨f, hf⟩, hfull⟩
    exact ⟨f, w, hf, hfull⟩
  · rintro ⟨f, w, hf, hfull⟩
    exact ⟨w, Wheel.mem_all w, ⟨f, hf⟩, hfull⟩

/-- A queue that receives an item has it placed, one that receives none is kept (R38). -/
theorem queueOf_insertStaged_placed (s : State) (mask : BitVec 4) (g : Staging) (n : Nat) (w : Wheel) :
    (∀ i, itemFor s mask g n w = some i →
      queueOf (insertStaged s mask g n) w = placed s.travel.position i (queueOf s w)) ∧
      ((itemFor s mask g n w).isSome = false → queueOf (insertStaged s mask g n) w = queueOf s w) := by
  rw [queueOf_insertStaged]
  refine ⟨fun i hi => ?_, fun hnone => ?_⟩
  · rw [hi]
    exact insertItem_eq_placed ..
  · rw [Option.isSome_eq_false_iff, Option.isNone_iff_eq_none] at hnone
    rw [hnone]

end Items

section Dropping

variable {s : State} {mask : BitVec 4} {g : Staging} {n : Nat}

/-- The insertions, and PREVIEW_DROPPED with them, change the queues and the ports alone. -/
theorem insertedOrDropped_rest (s : State) (p : Port) (mask : BitVec 4) (g : Staging) (n : Nat) (ports : PerPort PortState) :
    { insertedOrDropped (makeLive s p) mask g n with ports := ports } =
      { s with ports := ports, preview := (insertStaged s mask g n).preview } := by
  unfold insertedOrDropped raiseAtRole
  split
  · split <;> rfl
  · rfl

/-- PREVIEW_DROPPED goes to the PREVIEW port where a COPY is lost, and no port is touched otherwise (R44, R145). -/
theorem portOf_insertedOrDropped (hd : RolesDistinct s) (q : Port) :
    portOf (insertedOrDropped s mask g n) q =
      if Wheel.all.any (losesCopy s mask g) = true ∧ (portOf s q).role = .preview then
        { portOf s q with edges := setEdge (portOf s q).edges .previewDropped true }
      else portOf s q := by
  have hholder : holder (insertStaged s mask g n) .preview = some q ↔ (portOf s q).role = .preview :=
    holder_eq_some_iff (s := insertStaged s mask g n) hd (by decide) q
  unfold insertedOrDropped
  by_cases hlost : Wheel.all.any (losesCopy s mask g) = true
  · simp only [hlost, if_true, portOf_raiseAtRole, hholder, portOf_insertStaged, true_and]
  · simp only [hlost, if_false, false_and, portOf_insertStaged, Bool.false_eq_true]

theorem portEdged_insertedOrDropped (hd : RolesDistinct s) (q : Port) :
    PortEdged s (insertedOrDropped s mask g n) q fun e =>
      e = .previewDropped ∧ Wheel.all.any (losesCopy s mask g) = true ∧ (portOf s q).role = .preview := by
  have hport := portOf_insertedOrDropped (mask := mask) (g := g) (n := n) hd q
  split at hport
  next hlost => exact portEdged_congr (portEdged_setEdge hport) fun e => by simp [hlost]
  next hkept => exact portEdged_congr (portEdged_of_port_eq hport) fun e => iff_of_false id fun he => hkept he.2

end Dropping

/-- Settles O14: past its checks the scheduler inserts what it has for each queue, and tells the sender of a lost COPY. -/
theorem previewAtInsertsItemsAndCopies : Obligations.PreviewAtInsertsItemsAndCopies := by
  intro h d s hs hmode hd hps hm hlevel hspan hroom g P named copies direct copyOf
  obtain ⟨hr, hrole⟩ := hs
  have ha := admitted_preview_iff.mpr ⟨hrole, hmode⟩
  have he : exec (.previewAt h d) s = .next (takeFrame h .preview (placePreview h d) s) := rfl
  have hcopies : ∀ {f w}, copySource h.mask g w = some f ↔ copies f w := copySource_eq_some_iff
  have hstaging : (portOf (makeLive s h.port) h.port).staging = g := by simp [g]
  have hchecked : fullNamed h.mask (makeLive s h.port) = 0 :=
    (fullNamed_eq_zero_iff ..).mpr fun ⟨w, hw, hfull⟩ => absurd (hroom w hw) (not_lt.mpr hfull)
  have ho := placePreview_of_checks_passed (d := d) hm (by rw [hstaging]; exact ⟨hlevel, hspan⟩) hchecked
  rw [hstaging] at ho
  have hlive : RolesDistinct (makeLive s h.port) := rolesDistinct_makeLive hd h.port
  obtain ⟨hans, hsender, -, hrest⟩ := takeFrame_edged hr ha (by decide) ho (portEdged_insertedOrDropped hlive)
  obtain ⟨-, -, hother, -⟩ := takeFrame_admitted hr ha ho (keepsLink_insertedOrDropped ..)
  rw [insertedOrDropped_rest] at hrest
  have hpreview : (takeFrame h .preview (placePreview h d) s).preview = (insertStaged s h.mask g d.toNat).preview :=
    (congrArg State.preview hrest :)
  generalize takeFrame h .preview (placePreview h d) s = t at *
  have hqueue : ∀ w, queueOf t w = queueOf (insertStaged s h.mask g d.toNat) w := fun w => by
    rw [queueOf, hpreview, queueOf]
  have hplaced := queueOf_insertStaged_placed s h.mask g d.toNat
  have hreceived : ∀ w, (maskOf fun w => (itemFor s h.mask g d.toNat w).isSome).getLsbD w.num =
      (itemFor s h.mask g d.toNat w).isSome := namesWheel_maskOf _
  have hlost : Wheel.all.any (losesCopy s h.mask g) = true ↔ ∃ f w, copies f w ∧ 12 ≤ (queueOf s w).length := by
    simp only [any_losesCopy_iff, hcopies]
  refine ⟨t, maskOf fun w => (itemFor s h.mask g d.toNat w).isSome, he, hans, fun w => ?_, fun w hw => ?_,
    fun f w hc hw => ?_, fun w hw => ?_, by rw [hpreview]; rfl, ?_, fun q hq => ?_, ?_⟩
  · rw [hreceived, itemFor_isSome_iff]
    simp only [hcopies, named]
  · rw [hqueue, (hplaced w).1 _ (itemFor_of_named hw), stagedItem_direct]
  · rw [hqueue, (hplaced w).1 _ (itemFor_of_copy (hcopies.mpr hc) hw), stagedItem_copy hps]
  · rw [hqueue, (hplaced w).2 (by rw [← hreceived, hw])]
  · obtain ⟨hkept, hpointer, hstaged, hmask, hreported, hedges⟩ := hsender
    refine ⟨hkept, hpointer, hstaged, hmask, hreported, fun e => ?_⟩
    rw [hedges e, ← hlost]
    simp only [portOf_makeLive_self, hrole, and_true]
    rfl
  · have hne : ¬ (portOf (makeLive s h.port) q).role = .preview := by
      rw [portOf_makeLive_ne s hq]
      exact fun hother => hq (hd q h.port (by rw [hother, hrole]) (by rw [hother]; decide))
    rw [hother q hq, portOf_insertedOrDropped hlive, if_neg fun hboth => hne hboth.2, portOf_makeLive_ne s hq]
  · rw [hpreview]
    exact hrest

end Sys2Proof.Proofs
end
